-- ==== Sys2Proof/Word.lean ====
section
/-! DEFINITION. The two bit-vector types of the core: an 8-bit datum and a 16-bit address
(spec 00_scope.md §5, DATA_WIDTH and ADDR_WIDTH).  Their arithmetic is BitVec's own, which is
modulo 256 and modulo 65,536 as rule R6 asks. -/

namespace Sys2Proof

/-- An 8-bit datum: A, X, Y, SP, a packed P, every byte on the bus (DATA_WIDTH, rule R6). -/
abbrev Byte := BitVec 8

/-- A 16-bit address or program counter value (ADDR_WIDTH, rules R6 and R26). -/
abbrev Addr := BitVec 16

end Sys2Proof
end

