-- ==== Sys2Proof/Machine/State.lean ====
section
/-! DEFINITION. The state of the core (spec 10_state.md §1), as plain data: the registers, the two
cycle counters, the fault record, and the bus the core sees.  The bus collaborator's side is the
model's own (00_scope.md rule R2, decision D2): a flat memory, the answers it will give instead of
the memory's, and the record of the transactions made.  Then the reasons a step can stop, the named
updates, and the state after reset. -/

namespace Sys2Proof.Machine

/-- The seven stored flags of P (rule R10).  The eighth bit, U, is not stored: it reads 1 (rule R17). -/
@[ext]
structure Flags where
  /-- negative (rule R16) -/
  n : Bool
  /-- overflow (rule R15) -/
  v : Bool
  /-- break, a stored field of the live register (rule R18) -/
  b : Bool
  /-- decimal, stored and never read by arithmetic (rule R14) -/
  d : Bool
  /-- interrupt-disable (rule R13) -/
  i : Bool
  /-- zero (rule R12) -/
  z : Bool
  /-- carry (rule R11) -/
  c : Bool
  deriving DecidableEq, Repr

/-- The register file: A, X, Y (rule R7), SP (rule R8), PC (rule R9) and P (rule R10). -/
@[ext]
structure Regs where
  a : Byte
  x : Byte
  y : Byte
  sp : Byte
  pc : Addr
  p : Flags
  deriving DecidableEq, Repr

/-- The flat register record of `snapshot()` (rule R171); `p` is the packed byte. -/
@[ext]
structure Snapshot where
  a : Byte
  x : Byte
  y : Byte
  pc : Addr
  sp : Byte
  p : Byte
  deriving DecidableEq, Repr

/-- The record of an unsupported-opcode fatal condition (rules R24 and R153). -/
@[ext]
structure FaultRecord where
  opcode : Byte
  snapshot : Snapshot
  deriving DecidableEq, Repr

/-- One bus transaction (rules R4, R27 and R28): the address and the byte that moved. -/
inductive BusEvent where
  | load (a : Addr) (v : Byte)
  | store (a : Addr) (v : Byte)
  deriving DecidableEq, Repr

/-- Memory: (address, byte) pairs, addresses strictly rising, none equal to the unlisted byte; the
operations and the form's check are in Machine/Memory.lean. -/
abbrev Memory := List Host.Cell

/-- The bus as the core sees it (rule R4, decision D2; log entry 1). -/
@[ext]
structure Bus where
  /-- flat memory: what a load gets when `answers` says nothing else -/
  mem : Memory
  /-- MODEL'S OWN input, the bus oracle: the head is the answer to the next load, `none` (or an empty
  list) meaning the memory's byte.  Every load takes one entry off. -/
  answers : List (Option Byte)
  /-- MODEL'S OWN record of the bus transactions made, the NEWEST FIRST; no rule reads it (rules R5
  and R174 make the ordered transactions part of what a host operation does). -/
  trace : List BusEvent
  deriving DecidableEq, Repr

/-- The whole state (10_state.md §1) and the bus beside it. -/
@[ext]
structure State where
  regs : Regs
  /-- `cyc`, the per-step cycle accumulator (rules R23 and R55) -/
  cyc : Nat
  /-- `total_cycles`, the running total (rules R23 and R55) -/
  totalCycles : Nat
  /-- `fault`, none or the record of the fatal condition (rule R24) -/
  fault : Option FaultRecord
  bus : Bus
  deriving DecidableEq, Repr

/-- Why a step stops the machine. -/
inductive Fault where
  /-- The `Fatal(UnsupportedOpcode)` result of rules R50 and R153.  Raised by a step that fetches one of the
  21 opcodes of rule R47, by the meanings of those opcodes, and by every step of a faulted core.
  Safe: the machine stops exactly where the spec says the run ends. -/
  | unsupportedOpcode (r : FaultRecord)
  deriving DecidableEq, Repr

/-- Why an instruction has no meaning. -/
inductive Refusal where
  /-- Raised by an arm of `exec` whose instruction has no meaning yet.  Safe: nothing follows from it.  No arm
  of this model raises it. -/
  | notModelled (mnemonic : String)
  deriving DecidableEq, Repr

/-- What a step or a meaning answers. -/
abbrev Result := Host.Outcome State Fault Refusal

namespace State

def setA (s : State) (v : Byte) : State := { s with regs := { s.regs with a := v } }
def setX (s : State) (v : Byte) : State := { s with regs := { s.regs with x := v } }
def setY (s : State) (v : Byte) : State := { s with regs := { s.regs with y := v } }
def setSp (s : State) (v : Byte) : State := { s with regs := { s.regs with sp := v } }
def setPc (s : State) (v : Addr) : State := { s with regs := { s.regs with pc := v } }
def setP (s : State) (v : Flags) : State := { s with regs := { s.regs with p := v } }
def setRegs (s : State) (r : Regs) : State := { s with regs := r }
def setCyc (s : State) (n : Nat) : State := { s with cyc := n }
/-- `cyc <- cyc + n`: charge n cycles. -/
def addCyc (s : State) (n : Nat) : State := { s with cyc := s.cyc + n }
def setTotalCycles (s : State) (n : Nat) : State := { s with totalCycles := n }
def setFault (s : State) (f : Option FaultRecord) : State := { s with fault := f }
def setBus (s : State) (b : Bus) : State := { s with bus := b }

/-- The machine right after `reset()` (rule R169): A = X = Y = 0, SP = 0xFD, P = 0x24, both counters 0, no
fault, PC the word at the reset vector.  Memory lists nothing, so that word reads 0x0000 (DESIGN
CHOICE, log entry 2: the spec leaves memory's contents to the bus collaborator), and the trace
holds reset's own two loads, 0xFFFC first (rules R29 and R169). -/
def reset : State where
  regs :=
    { a := 0x00#8, x := 0x00#8, y := 0x00#8, sp := 0xFD#8, pc := 0x0000#16
      p := { n := false, v := false, b := false, d := false, i := true, z := false, c := false } }
  cyc := 0
  totalCycles := 0
  fault := none
  bus := { mem := [], answers := [], trace := [.load 0xFFFD#16 0x00#8, .load 0xFFFC#16 0x00#8] }

end State

end Sys2Proof.Machine
end

