-- ==== Sys2Proof/Machine/Flags.lean ====
section
/-! DEFINITION. Every packing of P and every flag computation of the spec, as functions of bytes and flags
(10_state.md §5, 43_alu.md §1, 44_shift_incdec.md §1).  A function that also has a result returns it first. -/

namespace Sys2Proof.Machine

/-- The byte with bit `k` equal to `f` and every other bit 0. -/
def flagBit (k : Nat) (f : Bool) : Byte := if f then 0x01#8 <<< k else 0x00#8

/-- `PackP()`: `N<<7 | V<<6 | 1<<5 | B<<4 | D<<3 | I<<2 | Z<<1 | C` (rules R10, R17 and R19). -/
def packP (p : Flags) : Byte :=
  flagBit 7 p.n ||| flagBit 6 p.v ||| flagBit 5 true ||| flagBit 4 p.b ||| flagBit 3 p.d
    ||| flagBit 2 p.i ||| flagBit 1 p.z ||| flagBit 0 p.c

/-- `PackPush()`: `PackP() | 0x10`, what PHP and the BRK/IRQ entry push (rule R19, conflict C1). -/
def packPush (p : Flags) : Byte := packP p ||| 0x10#8

/-- `UnpackPull(v)`, used by PLP and RTI: bits 4 and 5 are ignored and B becomes 0 (rule R20). -/
def unpackPull (v : Byte) : Flags where
  n := v.getLsbD 7
  v := v.getLsbD 6
  b := false
  d := v.getLsbD 3
  i := v.getLsbD 2
  z := v.getLsbD 1
  c := v.getLsbD 0

/-- The flags `restore` writes: as `unpackPull`, but B receives bit 4 (rules R18 and R172). -/
def unpackRestore (v : Byte) : Flags := { unpackPull v with b := v.getLsbD 4 }

/-- `SetZN(v)` (rule R21). -/
def setZN (v : Byte) (p : Flags) : Flags := { p with z := v == 0x00#8, n := v.getLsbD 7 }

/-- `AddWithCarry(m)` on the accumulator value `a` (rule R83); D is not read (rules R14 and R82). -/
def addWithCarry (a m : Byte) (p : Flags) : Byte × Flags :=
  let s := a.toNat + m.toNat + p.c.toNat
  let r := BitVec.ofNat 8 s
  (r, setZN r { p with c := decide (s > 0xFF), v := ((a ^^^ r) &&& (m ^^^ r) &&& 0x80#8) != 0x00#8 })

/-- `SubtractWithCarry(m)`: add with carry of the complement (rule R84). -/
def subtractWithCarry (a m : Byte) (p : Flags) : Byte × Flags := addWithCarry a (~~~m) p

/-- `Compare(r, m)` (rule R85). -/
def compareFlags (r m : Byte) (p : Flags) : Flags :=
  setZN (r - m) { p with c := decide (m.toNat ≤ r.toNat) }

/-- BIT's flags: Z from `A & m`, V and N from bits 6 and 7 of the operand (rule R91). -/
def bitFlags (a m : Byte) (p : Flags) : Flags :=
  { p with z := (a &&& m) == 0x00#8, v := m.getLsbD 6, n := m.getLsbD 7 }

/-- `ShiftL`, the operation of ASL (rule R95). -/
def shiftL (v : Byte) (p : Flags) : Byte × Flags :=
  let r := v <<< 1
  (r, setZN r { p with c := v.getLsbD 7 })

/-- `ShiftR`, the operation of LSR (rule R95). -/
def shiftR (v : Byte) (p : Flags) : Byte × Flags :=
  let r := v >>> 1
  (r, setZN r { p with c := v.getLsbD 0 })

/-- `RotL`, the operation of ROL: the old carry enters bit 0 (rule R95). -/
def rotL (v : Byte) (p : Flags) : Byte × Flags :=
  let r := (v <<< 1) ||| flagBit 0 p.c
  (r, setZN r { p with c := v.getLsbD 7 })

/-- `RotR`, the operation of ROR: the old carry enters bit 7 (rule R95). -/
def rotR (v : Byte) (p : Flags) : Byte × Flags :=
  let r := (v >>> 1) ||| flagBit 7 p.c
  (r, setZN r { p with c := v.getLsbD 0 })

/-- `Inc` and its flags: carry and overflow are not touched (rule R96). -/
def incByte (v : Byte) (p : Flags) : Byte × Flags := (v + 1, setZN (v + 1) p)

/-- `Dec` and its flags (rule R96). -/
def decByte (v : Byte) (p : Flags) : Byte × Flags := (v - 1, setZN (v - 1) p)

end Sys2Proof.Machine
end

