-- ==== Sys2Proof/Machine/Memory.lean ====
section
/-! DEFINITION. Flat memory as a list of (address, byte) pairs in one canonical form: addresses strictly
rising and below 65,536 (rule R26), no entry equal to what an unlisted address reads as. -/

namespace Sys2Proof.Machine

/-- What an address that is not listed reads as.  DESIGN CHOICE (log entry 2): the spec leaves the contents of
memory to the bus collaborator; 95_test_vectors.md §0 takes 0x00 before any store. -/
def Memory.unlisted : Byte := 0x00#8

/-- The byte at an address. -/
def Memory.read : Memory → Nat → Byte
  | [], _ => Memory.unlisted
  | (b, w) :: m, a => if a = b then w else Memory.read m a

/-- Put a byte at an address; the value an unlisted address reads as removes the entry. -/
def Memory.write : Memory → Nat → Byte → Memory
  | [], a, v => if v = Memory.unlisted then [] else [(a, v)]
  | (b, w) :: m, a, v =>
    if a < b then (if v = Memory.unlisted then (b, w) :: m else (a, v) :: (b, w) :: m)
    else if a = b then (if v = Memory.unlisted then m else (a, v) :: m)
    else (b, w) :: Memory.write m a v

/-- Every address is at least `k` and below 65,536, addresses strictly rise, and no byte is the unlisted one. -/
def Memory.wfFrom : Nat → Memory → Bool
  | _, [] => true
  | k, (b, w) :: m =>
    decide (k ≤ b) && decide (b < 65536) && (w != Memory.unlisted) && Memory.wfFrom (b + 1) m

/-- The canonical form. -/
def Memory.wf (m : Memory) : Bool := Memory.wfFrom 0 m

end Sys2Proof.Machine
end

