-- ==== Sys2Proof/Config.lean ====
section
/-! DEFINITION. What an implementation of this core fixes: the fixed bus addresses of decision D30 and
the types of the OPEN parameters of 00_scope.md §5.  The VALUE this hardware gives each OPEN
parameter stands in Machine/Params.lean.  There is no free value in this model: the spec leaves no
result of an instruction open, and what the bus answers to a load is an input held in State. -/

namespace Sys2Proof.Config

/-- BRANCH_PAGE_BASIS (decision D10, conflict C2): the page a taken branch's target is compared with. -/
inductive BranchPageBasis where
  /-- the page of the address after the branch's operand byte (the default) -/
  | nextInstruction
  /-- the page of the branch's own opcode byte -/
  | opcodeAddress
  deriving DecidableEq, Repr

/-- DMA_PARITY_BASIS (decision D11): the cycle count whose parity selects the OAM DMA's cost. -/
inductive DmaParityBasis where
  /-- `total_cycles + cyc` (the default) -/
  | totalPlusCurrent
  /-- `total_cycles` alone -/
  | totalBeforeStep
  deriving DecidableEq, Repr

/-- IRQ_ENTRY_STYLE (decision D14, rule R158). -/
inductive IrqEntryStyle where
  /-- PC advances by one and bit 4 of the pushed byte is 1 (the default) -/
  | sameAsBrk
  /-- no PC advance, and `PackP() & 0xEF` is pushed -/
  | hardware
  deriving DecidableEq, Repr

/-- SHXY_FORMULA (decision D29, rules R150 and R151). -/
inductive ShxyFormula where
  /-- the stored value replaces the address's high byte on a page cross (the default) -/
  | hiPlusOneWithAddressCorruption
  /-- 0x9C and 0x9E are unsupported opcodes -/
  | unsupported
  deriving DecidableEq, Repr

/-- STACK_PAGE: the high byte of every stack address (rule R8, decision D30). -/
def stackPage : Byte := 0x01#8

/-- NMI_VECTOR (rule R34, decision D30). -/
def nmiVector : Addr := 0xFFFA#16

/-- RESET_VECTOR (rule R34, decision D30). -/
def resetVector : Addr := 0xFFFC#16

/-- IRQ_VECTOR, shared by IRQ and BRK (rule R34, decision D30). -/
def irqVector : Addr := 0xFFFE#16

/-- DMA_TRIGGER_ADDR: a store here starts the OAM DMA (rules R28 and R34, decision D30). -/
def dmaTriggerAddr : Addr := 0x4014#16

/-- OAM_DATA_ADDR: the destination of every OAM DMA store (rules R34 and R37, decision D30). -/
def oamDataAddr : Addr := 0x2004#16

end Sys2Proof.Config
end

