-- ==== Sys2Proof/Syntax.lean ====
section
/-! DEFINITION. The instructions: ONE constructor per row of spec/opcode_table.json, that is one per opcode
value, grouped by the operand bytes they carry and in opcode order within a group (30_encoding.md §3).  (The
rows that carry operands come first because Lean's compiler numbers at most 245 constructors with
fields.)  A name is the row's mnemonic and addressing mode; the opcode is added where two rows share both.  The fields are the operand bytes of rule R42:
`m` an immediate byte, `z` a zero-page byte, `d` a branch displacement byte, `w` a 16-bit operand. -/

namespace Sys2Proof

/-- An instruction: opcode and operand (rules R42 to R47). -/
inductive Instr where
  -- one operand byte: immediate, zero page, relative, pointer in zero page
  | oraIndX (z : Byte)
  | sloIndX (z : Byte)
  | nopZp04 (z : Byte)
  | oraZp (z : Byte)
  | aslZp (z : Byte)
  | sloZp (z : Byte)
  | oraImm (m : Byte)
  | ancImm0B (m : Byte)
  | bpl (d : Byte)
  | oraIndY (z : Byte)
  | sloIndY (z : Byte)
  | nopZpX14 (z : Byte)
  | oraZpX (z : Byte)
  | aslZpX (z : Byte)
  | sloZpX (z : Byte)
  | andIndX (z : Byte)
  | rlaIndX (z : Byte)
  | bitZp (z : Byte)
  | andZp (z : Byte)
  | rolZp (z : Byte)
  | rlaZp (z : Byte)
  | andImm (m : Byte)
  | ancImm2B (m : Byte)
  | bmi (d : Byte)
  | andIndY (z : Byte)
  | rlaIndY (z : Byte)
  | nopZpX34 (z : Byte)
  | andZpX (z : Byte)
  | rolZpX (z : Byte)
  | rlaZpX (z : Byte)
  | eorIndX (z : Byte)
  | sreIndX (z : Byte)
  | nopZp44 (z : Byte)
  | eorZp (z : Byte)
  | lsrZp (z : Byte)
  | sreZp (z : Byte)
  | eorImm (m : Byte)
  | bvc (d : Byte)
  | eorIndY (z : Byte)
  | sreIndY (z : Byte)
  | nopZpX54 (z : Byte)
  | eorZpX (z : Byte)
  | lsrZpX (z : Byte)
  | sreZpX (z : Byte)
  | adcIndX (z : Byte)
  | rraIndX (z : Byte)
  | nopZp64 (z : Byte)
  | adcZp (z : Byte)
  | rorZp (z : Byte)
  | rraZp (z : Byte)
  | adcImm (m : Byte)
  | bvs (d : Byte)
  | adcIndY (z : Byte)
  | rraIndY (z : Byte)
  | nopZpX74 (z : Byte)
  | adcZpX (z : Byte)
  | rorZpX (z : Byte)
  | rraZpX (z : Byte)
  | nopImm80 (m : Byte)
  | staIndX (z : Byte)
  | nopImm82 (m : Byte)
  | saxIndX (z : Byte)
  | styZp (z : Byte)
  | staZp (z : Byte)
  | stxZp (z : Byte)
  | saxZp (z : Byte)
  | nopImm89 (m : Byte)
  | bcc (d : Byte)
  | staIndY (z : Byte)
  | styZpX (z : Byte)
  | staZpX (z : Byte)
  | stxZpY (z : Byte)
  | saxZpY (z : Byte)
  | ldyImm (m : Byte)
  | ldaIndX (z : Byte)
  | ldxImm (m : Byte)
  | laxIndX (z : Byte)
  | ldyZp (z : Byte)
  | ldaZp (z : Byte)
  | ldxZp (z : Byte)
  | laxZp (z : Byte)
  | ldaImm (m : Byte)
  | bcs (d : Byte)
  | ldaIndY (z : Byte)
  | laxIndY (z : Byte)
  | ldyZpX (z : Byte)
  | ldaZpX (z : Byte)
  | ldxZpY (z : Byte)
  | laxZpY (z : Byte)
  | cpyImm (m : Byte)
  | cmpIndX (z : Byte)
  | nopImmC2 (m : Byte)
  | dcpIndX (z : Byte)
  | cpyZp (z : Byte)
  | cmpZp (z : Byte)
  | decZp (z : Byte)
  | dcpZp (z : Byte)
  | cmpImm (m : Byte)
  | bne (d : Byte)
  | cmpIndY (z : Byte)
  | dcpIndY (z : Byte)
  | nopZpXD4 (z : Byte)
  | cmpZpX (z : Byte)
  | decZpX (z : Byte)
  | dcpZpX (z : Byte)
  | cpxImm (m : Byte)
  | sbcIndX (z : Byte)
  | nopImmE2 (m : Byte)
  | isbIndX (z : Byte)
  | cpxZp (z : Byte)
  | sbcZp (z : Byte)
  | incZp (z : Byte)
  | isbZp (z : Byte)
  | sbcImm (m : Byte)
  | sbcImmEB (m : Byte)
  | beq (d : Byte)
  | sbcIndY (z : Byte)
  | isbIndY (z : Byte)
  | nopZpXF4 (z : Byte)
  | sbcZpX (z : Byte)
  | incZpX (z : Byte)
  | isbZpX (z : Byte)
  -- two operand bytes
  | nopAbs0C (w : Addr)
  | oraAbs (w : Addr)
  | aslAbs (w : Addr)
  | sloAbs (w : Addr)
  | oraAbsY (w : Addr)
  | sloAbsY (w : Addr)
  | nopAbsX1C (w : Addr)
  | oraAbsX (w : Addr)
  | aslAbsX (w : Addr)
  | sloAbsX (w : Addr)
  | jsr (w : Addr)
  | bitAbs (w : Addr)
  | andAbs (w : Addr)
  | rolAbs (w : Addr)
  | rlaAbs (w : Addr)
  | andAbsY (w : Addr)
  | rlaAbsY (w : Addr)
  | nopAbsX3C (w : Addr)
  | andAbsX (w : Addr)
  | rolAbsX (w : Addr)
  | rlaAbsX (w : Addr)
  | jmpAbs (w : Addr)
  | eorAbs (w : Addr)
  | lsrAbs (w : Addr)
  | sreAbs (w : Addr)
  | eorAbsY (w : Addr)
  | sreAbsY (w : Addr)
  | nopAbsX5C (w : Addr)
  | eorAbsX (w : Addr)
  | lsrAbsX (w : Addr)
  | sreAbsX (w : Addr)
  | jmpInd (w : Addr)
  | adcAbs (w : Addr)
  | rorAbs (w : Addr)
  | rraAbs (w : Addr)
  | adcAbsY (w : Addr)
  | rraAbsY (w : Addr)
  | nopAbsX7C (w : Addr)
  | adcAbsX (w : Addr)
  | rorAbsX (w : Addr)
  | rraAbsX (w : Addr)
  | styAbs (w : Addr)
  | staAbs (w : Addr)
  | stxAbs (w : Addr)
  | saxAbs (w : Addr)
  | staAbsY (w : Addr)
  | shyAbsX (w : Addr)
  | staAbsX (w : Addr)
  | shxAbsY (w : Addr)
  | ldyAbs (w : Addr)
  | ldaAbs (w : Addr)
  | ldxAbs (w : Addr)
  | laxAbs (w : Addr)
  | ldaAbsY (w : Addr)
  | ldyAbsX (w : Addr)
  | ldaAbsX (w : Addr)
  | ldxAbsY (w : Addr)
  | laxAbsY (w : Addr)
  | cpyAbs (w : Addr)
  | cmpAbs (w : Addr)
  | decAbs (w : Addr)
  | dcpAbs (w : Addr)
  | cmpAbsY (w : Addr)
  | dcpAbsY (w : Addr)
  | nopAbsXDC (w : Addr)
  | cmpAbsX (w : Addr)
  | decAbsX (w : Addr)
  | dcpAbsX (w : Addr)
  | cpxAbs (w : Addr)
  | sbcAbs (w : Addr)
  | incAbs (w : Addr)
  | isbAbs (w : Addr)
  | sbcAbsY (w : Addr)
  | isbAbsY (w : Addr)
  | nopAbsXFC (w : Addr)
  | sbcAbsX (w : Addr)
  | incAbsX (w : Addr)
  | isbAbsX (w : Addr)
  -- no operand byte: implied and accumulator
  | brk
  | php
  | aslA
  | clc
  | nop1A
  | plp
  | rolA
  | sec
  | nop3A
  | rti
  | pha
  | lsrA
  | cli
  | nop5A
  | rts
  | pla
  | rorA
  | sei
  | nop7A
  | dey
  | txa
  | tya
  | txs
  | tay
  | tax
  | clv
  | tsx
  | iny
  | dex
  | cld
  | nopDA
  | inx
  | nop
  | sed
  | nopFA
  -- the 21 unsupported opcodes of rule R47
  | jam02
  | jam12
  | jam22
  | jam32
  | jam42
  | alr
  | jam52
  | jam62
  | arr
  | jam72
  | xaa
  | jam92
  | ahx93
  | tas
  | ahx9F
  | lxa
  | jamB2
  | las
  | axs
  | jamD2
  | jamF2
  deriving DecidableEq, Repr

end Sys2Proof
end

