-- ==== Sys2Proof/Decode.lean ====
section
/-! DEFINITION. Decoding, total on any bytes (rules R42 to R47), then the encoder, both written from the opcode
map of 30_encoding.md §3.  Also the byte-order helpers they use, and the lists of undocumented opcodes. -/

namespace Sys2Proof

/-- `lo(w)`, that is `w[7:0]` (00_scope.md §6). -/
def lo (w : Addr) : Byte := w.extractLsb' 0 8

/-- `hi(w)`, that is `w[15:8]` (00_scope.md §6). -/
def hi (w : Addr) : Byte := w.extractLsb' 8 8

/-- `hi:lo`, the 16-bit value of a high and a low byte (00_scope.md §6, rule R30). -/
def word (h l : Byte) : Addr := h ++ l

/-! ## Undocumented opcodes -/

/-- The 84 undocumented opcodes that rule R46 lists, mnemonic by mnemonic. -/
def stableUndocumented : List Byte :=
  [0x1A#8, 0x3A#8, 0x5A#8, 0x7A#8, 0xDA#8, 0xFA#8]
    ++ [0x80#8, 0x82#8, 0x89#8, 0xC2#8, 0xE2#8]
    ++ [0x04#8, 0x44#8, 0x64#8]
    ++ [0x14#8, 0x34#8, 0x54#8, 0x74#8, 0xD4#8, 0xF4#8]
    ++ [0x0C#8]
    ++ [0x1C#8, 0x3C#8, 0x5C#8, 0x7C#8, 0xDC#8, 0xFC#8]
    ++ [0xA3#8, 0xA7#8, 0xAF#8, 0xB3#8, 0xB7#8, 0xBF#8]
    ++ [0x83#8, 0x87#8, 0x8F#8, 0x97#8]
    ++ [0xEB#8]
    ++ [0x03#8, 0x07#8, 0x0F#8, 0x13#8, 0x17#8, 0x1B#8, 0x1F#8]
    ++ [0x23#8, 0x27#8, 0x2F#8, 0x33#8, 0x37#8, 0x3B#8, 0x3F#8]
    ++ [0x43#8, 0x47#8, 0x4F#8, 0x53#8, 0x57#8, 0x5B#8, 0x5F#8]
    ++ [0x63#8, 0x67#8, 0x6F#8, 0x73#8, 0x77#8, 0x7B#8, 0x7F#8]
    ++ [0xC3#8, 0xC7#8, 0xCF#8, 0xD3#8, 0xD7#8, 0xDB#8, 0xDF#8]
    ++ [0xE3#8, 0xE7#8, 0xEF#8, 0xF3#8, 0xF7#8, 0xFB#8, 0xFF#8]
    ++ [0x0B#8, 0x2B#8]
    ++ [0x9C#8]
    ++ [0x9E#8]

/-- The 21 opcodes of rule R47, which the core never admits. -/
def neverAdmitted : List Byte :=
  [0x02#8, 0x12#8, 0x22#8, 0x32#8, 0x42#8, 0x52#8, 0x62#8, 0x72#8, 0x92#8, 0xB2#8, 0xD2#8, 0xF2#8]
    ++ [0x4B#8, 0x6B#8, 0x8B#8, 0x93#8, 0x9B#8, 0x9F#8, 0xAB#8, 0xBB#8, 0xCB#8]

/-! ## Decoding -/

/-- Why a list of bytes is no instruction. -/
inductive DecodeError where
  /-- there is no byte -/
  | empty
  /-- operand bytes of this opcode are missing -/
  | truncated (opcode : Byte)
  deriving DecidableEq, Repr

/-- Row 0x of the opcode map; `n` is the low nibble, `b1` and `b2` the operand bytes. -/
def decodeRow0 (n : Nat) (b1 b2 : Byte) : Instr :=
  match n with
  | 0 => .brk
  | 1 => .oraIndX b1
  | 2 => .jam02
  | 3 => .sloIndX b1
  | 4 => .nopZp04 b1
  | 5 => .oraZp b1
  | 6 => .aslZp b1
  | 7 => .sloZp b1
  | 8 => .php
  | 9 => .oraImm b1
  | 10 => .aslA
  | 11 => .ancImm0B b1
  | 12 => .nopAbs0C (word b2 b1)
  | 13 => .oraAbs (word b2 b1)
  | 14 => .aslAbs (word b2 b1)
  | _ => .sloAbs (word b2 b1)

/-- Row 1x of the opcode map; `n` is the low nibble, `b1` and `b2` the operand bytes. -/
def decodeRow1 (n : Nat) (b1 b2 : Byte) : Instr :=
  match n with
  | 0 => .bpl b1
  | 1 => .oraIndY b1
  | 2 => .jam12
  | 3 => .sloIndY b1
  | 4 => .nopZpX14 b1
  | 5 => .oraZpX b1
  | 6 => .aslZpX b1
  | 7 => .sloZpX b1
  | 8 => .clc
  | 9 => .oraAbsY (word b2 b1)
  | 10 => .nop1A
  | 11 => .sloAbsY (word b2 b1)
  | 12 => .nopAbsX1C (word b2 b1)
  | 13 => .oraAbsX (word b2 b1)
  | 14 => .aslAbsX (word b2 b1)
  | _ => .sloAbsX (word b2 b1)

/-- Row 2x of the opcode map; `n` is the low nibble, `b1` and `b2` the operand bytes. -/
def decodeRow2 (n : Nat) (b1 b2 : Byte) : Instr :=
  match n with
  | 0 => .jsr (word b2 b1)
  | 1 => .andIndX b1
  | 2 => .jam22
  | 3 => .rlaIndX b1
  | 4 => .bitZp b1
  | 5 => .andZp b1
  | 6 => .rolZp b1
  | 7 => .rlaZp b1
  | 8 => .plp
  | 9 => .andImm b1
  | 10 => .rolA
  | 11 => .ancImm2B b1
  | 12 => .bitAbs (word b2 b1)
  | 13 => .andAbs (word b2 b1)
  | 14 => .rolAbs (word b2 b1)
  | _ => .rlaAbs (word b2 b1)

/-- Row 3x of the opcode map; `n` is the low nibble, `b1` and `b2` the operand bytes. -/
def decodeRow3 (n : Nat) (b1 b2 : Byte) : Instr :=
  match n with
  | 0 => .bmi b1
  | 1 => .andIndY b1
  | 2 => .jam32
  | 3 => .rlaIndY b1
  | 4 => .nopZpX34 b1
  | 5 => .andZpX b1
  | 6 => .rolZpX b1
  | 7 => .rlaZpX b1
  | 8 => .sec
  | 9 => .andAbsY (word b2 b1)
  | 10 => .nop3A
  | 11 => .rlaAbsY (word b2 b1)
  | 12 => .nopAbsX3C (word b2 b1)
  | 13 => .andAbsX (word b2 b1)
  | 14 => .rolAbsX (word b2 b1)
  | _ => .rlaAbsX (word b2 b1)

/-- Row 4x of the opcode map; `n` is the low nibble, `b1` and `b2` the operand bytes. -/
def decodeRow4 (n : Nat) (b1 b2 : Byte) : Instr :=
  match n with
  | 0 => .rti
  | 1 => .eorIndX b1
  | 2 => .jam42
  | 3 => .sreIndX b1
  | 4 => .nopZp44 b1
  | 5 => .eorZp b1
  | 6 => .lsrZp b1
  | 7 => .sreZp b1
  | 8 => .pha
  | 9 => .eorImm b1
  | 10 => .lsrA
  | 11 => .alr
  | 12 => .jmpAbs (word b2 b1)
  | 13 => .eorAbs (word b2 b1)
  | 14 => .lsrAbs (word b2 b1)
  | _ => .sreAbs (word b2 b1)

/-- Row 5x of the opcode map; `n` is the low nibble, `b1` and `b2` the operand bytes. -/
def decodeRow5 (n : Nat) (b1 b2 : Byte) : Instr :=
  match n with
  | 0 => .bvc b1
  | 1 => .eorIndY b1
  | 2 => .jam52
  | 3 => .sreIndY b1
  | 4 => .nopZpX54 b1
  | 5 => .eorZpX b1
  | 6 => .lsrZpX b1
  | 7 => .sreZpX b1
  | 8 => .cli
  | 9 => .eorAbsY (word b2 b1)
  | 10 => .nop5A
  | 11 => .sreAbsY (word b2 b1)
  | 12 => .nopAbsX5C (word b2 b1)
  | 13 => .eorAbsX (word b2 b1)
  | 14 => .lsrAbsX (word b2 b1)
  | _ => .sreAbsX (word b2 b1)

/-- Row 6x of the opcode map; `n` is the low nibble, `b1` and `b2` the operand bytes. -/
def decodeRow6 (n : Nat) (b1 b2 : Byte) : Instr :=
  match n with
  | 0 => .rts
  | 1 => .adcIndX b1
  | 2 => .jam62
  | 3 => .rraIndX b1
  | 4 => .nopZp64 b1
  | 5 => .adcZp b1
  | 6 => .rorZp b1
  | 7 => .rraZp b1
  | 8 => .pla
  | 9 => .adcImm b1
  | 10 => .rorA
  | 11 => .arr
  | 12 => .jmpInd (word b2 b1)
  | 13 => .adcAbs (word b2 b1)
  | 14 => .rorAbs (word b2 b1)
  | _ => .rraAbs (word b2 b1)

/-- Row 7x of the opcode map; `n` is the low nibble, `b1` and `b2` the operand bytes. -/
def decodeRow7 (n : Nat) (b1 b2 : Byte) : Instr :=
  match n with
  | 0 => .bvs b1
  | 1 => .adcIndY b1
  | 2 => .jam72
  | 3 => .rraIndY b1
  | 4 => .nopZpX74 b1
  | 5 => .adcZpX b1
  | 6 => .rorZpX b1
  | 7 => .rraZpX b1
  | 8 => .sei
  | 9 => .adcAbsY (word b2 b1)
  | 10 => .nop7A
  | 11 => .rraAbsY (word b2 b1)
  | 12 => .nopAbsX7C (word b2 b1)
  | 13 => .adcAbsX (word b2 b1)
  | 14 => .rorAbsX (word b2 b1)
  | _ => .rraAbsX (word b2 b1)

/-- Row 8x of the opcode map; `n` is the low nibble, `b1` and `b2` the operand bytes. -/
def decodeRow8 (n : Nat) (b1 b2 : Byte) : Instr :=
  match n with
  | 0 => .nopImm80 b1
  | 1 => .staIndX b1
  | 2 => .nopImm82 b1
  | 3 => .saxIndX b1
  | 4 => .styZp b1
  | 5 => .staZp b1
  | 6 => .stxZp b1
  | 7 => .saxZp b1
  | 8 => .dey
  | 9 => .nopImm89 b1
  | 10 => .txa
  | 11 => .xaa
  | 12 => .styAbs (word b2 b1)
  | 13 => .staAbs (word b2 b1)
  | 14 => .stxAbs (word b2 b1)
  | _ => .saxAbs (word b2 b1)

/-- Row 9x of the opcode map; `n` is the low nibble, `b1` and `b2` the operand bytes. -/
def decodeRow9 (n : Nat) (b1 b2 : Byte) : Instr :=
  match n with
  | 0 => .bcc b1
  | 1 => .staIndY b1
  | 2 => .jam92
  | 3 => .ahx93
  | 4 => .styZpX b1
  | 5 => .staZpX b1
  | 6 => .stxZpY b1
  | 7 => .saxZpY b1
  | 8 => .tya
  | 9 => .staAbsY (word b2 b1)
  | 10 => .txs
  | 11 => .tas
  | 12 => .shyAbsX (word b2 b1)
  | 13 => .staAbsX (word b2 b1)
  | 14 => .shxAbsY (word b2 b1)
  | _ => .ahx9F

/-- Row Ax of the opcode map; `n` is the low nibble, `b1` and `b2` the operand bytes. -/
def decodeRowA (n : Nat) (b1 b2 : Byte) : Instr :=
  match n with
  | 0 => .ldyImm b1
  | 1 => .ldaIndX b1
  | 2 => .ldxImm b1
  | 3 => .laxIndX b1
  | 4 => .ldyZp b1
  | 5 => .ldaZp b1
  | 6 => .ldxZp b1
  | 7 => .laxZp b1
  | 8 => .tay
  | 9 => .ldaImm b1
  | 10 => .tax
  | 11 => .lxa
  | 12 => .ldyAbs (word b2 b1)
  | 13 => .ldaAbs (word b2 b1)
  | 14 => .ldxAbs (word b2 b1)
  | _ => .laxAbs (word b2 b1)

/-- Row Bx of the opcode map; `n` is the low nibble, `b1` and `b2` the operand bytes. -/
def decodeRowB (n : Nat) (b1 b2 : Byte) : Instr :=
  match n with
  | 0 => .bcs b1
  | 1 => .ldaIndY b1
  | 2 => .jamB2
  | 3 => .laxIndY b1
  | 4 => .ldyZpX b1
  | 5 => .ldaZpX b1
  | 6 => .ldxZpY b1
  | 7 => .laxZpY b1
  | 8 => .clv
  | 9 => .ldaAbsY (word b2 b1)
  | 10 => .tsx
  | 11 => .las
  | 12 => .ldyAbsX (word b2 b1)
  | 13 => .ldaAbsX (word b2 b1)
  | 14 => .ldxAbsY (word b2 b1)
  | _ => .laxAbsY (word b2 b1)

/-- Row Cx of the opcode map; `n` is the low nibble, `b1` and `b2` the operand bytes. -/
def decodeRowC (n : Nat) (b1 b2 : Byte) : Instr :=
  match n with
  | 0 => .cpyImm b1
  | 1 => .cmpIndX b1
  | 2 => .nopImmC2 b1
  | 3 => .dcpIndX b1
  | 4 => .cpyZp b1
  | 5 => .cmpZp b1
  | 6 => .decZp b1
  | 7 => .dcpZp b1
  | 8 => .iny
  | 9 => .cmpImm b1
  | 10 => .dex
  | 11 => .axs
  | 12 => .cpyAbs (word b2 b1)
  | 13 => .cmpAbs (word b2 b1)
  | 14 => .decAbs (word b2 b1)
  | _ => .dcpAbs (word b2 b1)

/-- Row Dx of the opcode map; `n` is the low nibble, `b1` and `b2` the operand bytes. -/
def decodeRowD (n : Nat) (b1 b2 : Byte) : Instr :=
  match n with
  | 0 => .bne b1
  | 1 => .cmpIndY b1
  | 2 => .jamD2
  | 3 => .dcpIndY b1
  | 4 => .nopZpXD4 b1
  | 5 => .cmpZpX b1
  | 6 => .decZpX b1
  | 7 => .dcpZpX b1
  | 8 => .cld
  | 9 => .cmpAbsY (word b2 b1)
  | 10 => .nopDA
  | 11 => .dcpAbsY (word b2 b1)
  | 12 => .nopAbsXDC (word b2 b1)
  | 13 => .cmpAbsX (word b2 b1)
  | 14 => .decAbsX (word b2 b1)
  | _ => .dcpAbsX (word b2 b1)

/-- Row Ex of the opcode map; `n` is the low nibble, `b1` and `b2` the operand bytes. -/
def decodeRowE (n : Nat) (b1 b2 : Byte) : Instr :=
  match n with
  | 0 => .cpxImm b1
  | 1 => .sbcIndX b1
  | 2 => .nopImmE2 b1
  | 3 => .isbIndX b1
  | 4 => .cpxZp b1
  | 5 => .sbcZp b1
  | 6 => .incZp b1
  | 7 => .isbZp b1
  | 8 => .inx
  | 9 => .sbcImm b1
  | 10 => .nop
  | 11 => .sbcImmEB b1
  | 12 => .cpxAbs (word b2 b1)
  | 13 => .sbcAbs (word b2 b1)
  | 14 => .incAbs (word b2 b1)
  | _ => .isbAbs (word b2 b1)

/-- Row Fx of the opcode map; `n` is the low nibble, `b1` and `b2` the operand bytes. -/
def decodeRowF (n : Nat) (b1 b2 : Byte) : Instr :=
  match n with
  | 0 => .beq b1
  | 1 => .sbcIndY b1
  | 2 => .jamF2
  | 3 => .isbIndY b1
  | 4 => .nopZpXF4 b1
  | 5 => .sbcZpX b1
  | 6 => .incZpX b1
  | 7 => .isbZpX b1
  | 8 => .sed
  | 9 => .sbcAbsY (word b2 b1)
  | 10 => .nopFA
  | 11 => .isbAbsY (word b2 b1)
  | 12 => .nopAbsXFC (word b2 b1)
  | 13 => .sbcAbsX (word b2 b1)
  | 14 => .incAbsX (word b2 b1)
  | _ => .isbAbsX (word b2 b1)

/-- The instruction of an opcode byte and the two bytes after it (rules R43 and R44); a mode that has fewer
operand bytes ignores the rest. -/
def decodeOp (op b1 b2 : Byte) : Instr :=
  let n := op.toNat % 16
  match op.toNat / 16 with
  | 0 => decodeRow0 n b1 b2
  | 1 => decodeRow1 n b1 b2
  | 2 => decodeRow2 n b1 b2
  | 3 => decodeRow3 n b1 b2
  | 4 => decodeRow4 n b1 b2
  | 5 => decodeRow5 n b1 b2
  | 6 => decodeRow6 n b1 b2
  | 7 => decodeRow7 n b1 b2
  | 8 => decodeRow8 n b1 b2
  | 9 => decodeRow9 n b1 b2
  | 10 => decodeRowA n b1 b2
  | 11 => decodeRowB n b1 b2
  | 12 => decodeRowC n b1 b2
  | 13 => decodeRowD n b1 b2
  | 14 => decodeRowE n b1 b2
  | _ => decodeRowF n b1 b2

/-! ## Encoding -/

/-- The opcode byte of each row (30_encoding.md §3). -/
def Instr.opcode : Instr → Byte
  | .brk => 0x00#8
  | .oraIndX _ => 0x01#8
  | .jam02 => 0x02#8
  | .sloIndX _ => 0x03#8
  | .nopZp04 _ => 0x04#8
  | .oraZp _ => 0x05#8
  | .aslZp _ => 0x06#8
  | .sloZp _ => 0x07#8
  | .php => 0x08#8
  | .oraImm _ => 0x09#8
  | .aslA => 0x0A#8
  | .ancImm0B _ => 0x0B#8
  | .nopAbs0C _ => 0x0C#8
  | .oraAbs _ => 0x0D#8
  | .aslAbs _ => 0x0E#8
  | .sloAbs _ => 0x0F#8
  | .bpl _ => 0x10#8
  | .oraIndY _ => 0x11#8
  | .jam12 => 0x12#8
  | .sloIndY _ => 0x13#8
  | .nopZpX14 _ => 0x14#8
  | .oraZpX _ => 0x15#8
  | .aslZpX _ => 0x16#8
  | .sloZpX _ => 0x17#8
  | .clc => 0x18#8
  | .oraAbsY _ => 0x19#8
  | .nop1A => 0x1A#8
  | .sloAbsY _ => 0x1B#8
  | .nopAbsX1C _ => 0x1C#8
  | .oraAbsX _ => 0x1D#8
  | .aslAbsX _ => 0x1E#8
  | .sloAbsX _ => 0x1F#8
  | .jsr _ => 0x20#8
  | .andIndX _ => 0x21#8
  | .jam22 => 0x22#8
  | .rlaIndX _ => 0x23#8
  | .bitZp _ => 0x24#8
  | .andZp _ => 0x25#8
  | .rolZp _ => 0x26#8
  | .rlaZp _ => 0x27#8
  | .plp => 0x28#8
  | .andImm _ => 0x29#8
  | .rolA => 0x2A#8
  | .ancImm2B _ => 0x2B#8
  | .bitAbs _ => 0x2C#8
  | .andAbs _ => 0x2D#8
  | .rolAbs _ => 0x2E#8
  | .rlaAbs _ => 0x2F#8
  | .bmi _ => 0x30#8
  | .andIndY _ => 0x31#8
  | .jam32 => 0x32#8
  | .rlaIndY _ => 0x33#8
  | .nopZpX34 _ => 0x34#8
  | .andZpX _ => 0x35#8
  | .rolZpX _ => 0x36#8
  | .rlaZpX _ => 0x37#8
  | .sec => 0x38#8
  | .andAbsY _ => 0x39#8
  | .nop3A => 0x3A#8
  | .rlaAbsY _ => 0x3B#8
  | .nopAbsX3C _ => 0x3C#8
  | .andAbsX _ => 0x3D#8
  | .rolAbsX _ => 0x3E#8
  | .rlaAbsX _ => 0x3F#8
  | .rti => 0x40#8
  | .eorIndX _ => 0x41#8
  | .jam42 => 0x42#8
  | .sreIndX _ => 0x43#8
  | .nopZp44 _ => 0x44#8
  | .eorZp _ => 0x45#8
  | .lsrZp _ => 0x46#8
  | .sreZp _ => 0x47#8
  | .pha => 0x48#8
  | .eorImm _ => 0x49#8
  | .lsrA => 0x4A#8
  | .alr => 0x4B#8
  | .jmpAbs _ => 0x4C#8
  | .eorAbs _ => 0x4D#8
  | .lsrAbs _ => 0x4E#8
  | .sreAbs _ => 0x4F#8
  | .bvc _ => 0x50#8
  | .eorIndY _ => 0x51#8
  | .jam52 => 0x52#8
  | .sreIndY _ => 0x53#8
  | .nopZpX54 _ => 0x54#8
  | .eorZpX _ => 0x55#8
  | .lsrZpX _ => 0x56#8
  | .sreZpX _ => 0x57#8
  | .cli => 0x58#8
  | .eorAbsY _ => 0x59#8
  | .nop5A => 0x5A#8
  | .sreAbsY _ => 0x5B#8
  | .nopAbsX5C _ => 0x5C#8
  | .eorAbsX _ => 0x5D#8
  | .lsrAbsX _ => 0x5E#8
  | .sreAbsX _ => 0x5F#8
  | .rts => 0x60#8
  | .adcIndX _ => 0x61#8
  | .jam62 => 0x62#8
  | .rraIndX _ => 0x63#8
  | .nopZp64 _ => 0x64#8
  | .adcZp _ => 0x65#8
  | .rorZp _ => 0x66#8
  | .rraZp _ => 0x67#8
  | .pla => 0x68#8
  | .adcImm _ => 0x69#8
  | .rorA => 0x6A#8
  | .arr => 0x6B#8
  | .jmpInd _ => 0x6C#8
  | .adcAbs _ => 0x6D#8
  | .rorAbs _ => 0x6E#8
  | .rraAbs _ => 0x6F#8
  | .bvs _ => 0x70#8
  | .adcIndY _ => 0x71#8
  | .jam72 => 0x72#8
  | .rraIndY _ => 0x73#8
  | .nopZpX74 _ => 0x74#8
  | .adcZpX _ => 0x75#8
  | .rorZpX _ => 0x76#8
  | .rraZpX _ => 0x77#8
  | .sei => 0x78#8
  | .adcAbsY _ => 0x79#8
  | .nop7A => 0x7A#8
  | .rraAbsY _ => 0x7B#8
  | .nopAbsX7C _ => 0x7C#8
  | .adcAbsX _ => 0x7D#8
  | .rorAbsX _ => 0x7E#8
  | .rraAbsX _ => 0x7F#8
  | .nopImm80 _ => 0x80#8
  | .staIndX _ => 0x81#8
  | .nopImm82 _ => 0x82#8
  | .saxIndX _ => 0x83#8
  | .styZp _ => 0x84#8
  | .staZp _ => 0x85#8
  | .stxZp _ => 0x86#8
  | .saxZp _ => 0x87#8
  | .dey => 0x88#8
  | .nopImm89 _ => 0x89#8
  | .txa => 0x8A#8
  | .xaa => 0x8B#8
  | .styAbs _ => 0x8C#8
  | .staAbs _ => 0x8D#8
  | .stxAbs _ => 0x8E#8
  | .saxAbs _ => 0x8F#8
  | .bcc _ => 0x90#8
  | .staIndY _ => 0x91#8
  | .jam92 => 0x92#8
  | .ahx93 => 0x93#8
  | .styZpX _ => 0x94#8
  | .staZpX _ => 0x95#8
  | .stxZpY _ => 0x96#8
  | .saxZpY _ => 0x97#8
  | .tya => 0x98#8
  | .staAbsY _ => 0x99#8
  | .txs => 0x9A#8
  | .tas => 0x9B#8
  | .shyAbsX _ => 0x9C#8
  | .staAbsX _ => 0x9D#8
  | .shxAbsY _ => 0x9E#8
  | .ahx9F => 0x9F#8
  | .ldyImm _ => 0xA0#8
  | .ldaIndX _ => 0xA1#8
  | .ldxImm _ => 0xA2#8
  | .laxIndX _ => 0xA3#8
  | .ldyZp _ => 0xA4#8
  | .ldaZp _ => 0xA5#8
  | .ldxZp _ => 0xA6#8
  | .laxZp _ => 0xA7#8
  | .tay => 0xA8#8
  | .ldaImm _ => 0xA9#8
  | .tax => 0xAA#8
  | .lxa => 0xAB#8
  | .ldyAbs _ => 0xAC#8
  | .ldaAbs _ => 0xAD#8
  | .ldxAbs _ => 0xAE#8
  | .laxAbs _ => 0xAF#8
  | .bcs _ => 0xB0#8
  | .ldaIndY _ => 0xB1#8
  | .jamB2 => 0xB2#8
  | .laxIndY _ => 0xB3#8
  | .ldyZpX _ => 0xB4#8
  | .ldaZpX _ => 0xB5#8
  | .ldxZpY _ => 0xB6#8
  | .laxZpY _ => 0xB7#8
  | .clv => 0xB8#8
  | .ldaAbsY _ => 0xB9#8
  | .tsx => 0xBA#8
  | .las => 0xBB#8
  | .ldyAbsX _ => 0xBC#8
  | .ldaAbsX _ => 0xBD#8
  | .ldxAbsY _ => 0xBE#8
  | .laxAbsY _ => 0xBF#8
  | .cpyImm _ => 0xC0#8
  | .cmpIndX _ => 0xC1#8
  | .nopImmC2 _ => 0xC2#8
  | .dcpIndX _ => 0xC3#8
  | .cpyZp _ => 0xC4#8
  | .cmpZp _ => 0xC5#8
  | .decZp _ => 0xC6#8
  | .dcpZp _ => 0xC7#8
  | .iny => 0xC8#8
  | .cmpImm _ => 0xC9#8
  | .dex => 0xCA#8
  | .axs => 0xCB#8
  | .cpyAbs _ => 0xCC#8
  | .cmpAbs _ => 0xCD#8
  | .decAbs _ => 0xCE#8
  | .dcpAbs _ => 0xCF#8
  | .bne _ => 0xD0#8
  | .cmpIndY _ => 0xD1#8
  | .jamD2 => 0xD2#8
  | .dcpIndY _ => 0xD3#8
  | .nopZpXD4 _ => 0xD4#8
  | .cmpZpX _ => 0xD5#8
  | .decZpX _ => 0xD6#8
  | .dcpZpX _ => 0xD7#8
  | .cld => 0xD8#8
  | .cmpAbsY _ => 0xD9#8
  | .nopDA => 0xDA#8
  | .dcpAbsY _ => 0xDB#8
  | .nopAbsXDC _ => 0xDC#8
  | .cmpAbsX _ => 0xDD#8
  | .decAbsX _ => 0xDE#8
  | .dcpAbsX _ => 0xDF#8
  | .cpxImm _ => 0xE0#8
  | .sbcIndX _ => 0xE1#8
  | .nopImmE2 _ => 0xE2#8
  | .isbIndX _ => 0xE3#8
  | .cpxZp _ => 0xE4#8
  | .sbcZp _ => 0xE5#8
  | .incZp _ => 0xE6#8
  | .isbZp _ => 0xE7#8
  | .inx => 0xE8#8
  | .sbcImm _ => 0xE9#8
  | .nop => 0xEA#8
  | .sbcImmEB _ => 0xEB#8
  | .cpxAbs _ => 0xEC#8
  | .sbcAbs _ => 0xED#8
  | .incAbs _ => 0xEE#8
  | .isbAbs _ => 0xEF#8
  | .beq _ => 0xF0#8
  | .sbcIndY _ => 0xF1#8
  | .jamF2 => 0xF2#8
  | .isbIndY _ => 0xF3#8
  | .nopZpXF4 _ => 0xF4#8
  | .sbcZpX _ => 0xF5#8
  | .incZpX _ => 0xF6#8
  | .isbZpX _ => 0xF7#8
  | .sed => 0xF8#8
  | .sbcAbsY _ => 0xF9#8
  | .nopFA => 0xFA#8
  | .isbAbsY _ => 0xFB#8
  | .nopAbsXFC _ => 0xFC#8
  | .sbcAbsX _ => 0xFD#8
  | .incAbsX _ => 0xFE#8
  | .isbAbsX _ => 0xFF#8

/-- The operand bytes, in the order they stand in the instruction stream; a 16-bit operand is little-endian
(rules R42, R43 and R30). -/
def Instr.operands : Instr → List Byte
  | .brk | .jam02 | .php | .aslA | .jam12 | .clc | .nop1A | .jam22 | .plp | .rolA | .jam32 | .sec
  | .nop3A | .rti | .jam42 | .pha | .lsrA | .alr | .jam52 | .cli | .nop5A | .rts | .jam62 | .pla
  | .rorA | .arr | .jam72 | .sei | .nop7A | .dey | .txa | .xaa | .jam92 | .ahx93 | .tya | .txs
  | .tas | .ahx9F | .tay | .tax | .lxa | .jamB2 | .clv | .tsx | .las | .iny | .dex | .axs
  | .jamD2 | .cld | .nopDA | .inx | .nop | .jamF2 | .sed | .nopFA => []
  | .oraIndX b | .sloIndX b | .nopZp04 b | .oraZp b | .aslZp b | .sloZp b | .oraImm b
  | .ancImm0B b | .bpl b | .oraIndY b | .sloIndY b | .nopZpX14 b | .oraZpX b | .aslZpX b
  | .sloZpX b | .andIndX b | .rlaIndX b | .bitZp b | .andZp b | .rolZp b | .rlaZp b | .andImm b
  | .ancImm2B b | .bmi b | .andIndY b | .rlaIndY b | .nopZpX34 b | .andZpX b | .rolZpX b
  | .rlaZpX b | .eorIndX b | .sreIndX b | .nopZp44 b | .eorZp b | .lsrZp b | .sreZp b | .eorImm b
  | .bvc b | .eorIndY b | .sreIndY b | .nopZpX54 b | .eorZpX b | .lsrZpX b | .sreZpX b
  | .adcIndX b | .rraIndX b | .nopZp64 b | .adcZp b | .rorZp b | .rraZp b | .adcImm b | .bvs b
  | .adcIndY b | .rraIndY b | .nopZpX74 b | .adcZpX b | .rorZpX b | .rraZpX b | .nopImm80 b
  | .staIndX b | .nopImm82 b | .saxIndX b | .styZp b | .staZp b | .stxZp b | .saxZp b
  | .nopImm89 b | .bcc b | .staIndY b | .styZpX b | .staZpX b | .stxZpY b | .saxZpY b | .ldyImm b
  | .ldaIndX b | .ldxImm b | .laxIndX b | .ldyZp b | .ldaZp b | .ldxZp b | .laxZp b | .ldaImm b
  | .bcs b | .ldaIndY b | .laxIndY b | .ldyZpX b | .ldaZpX b | .ldxZpY b | .laxZpY b | .cpyImm b
  | .cmpIndX b | .nopImmC2 b | .dcpIndX b | .cpyZp b | .cmpZp b | .decZp b | .dcpZp b | .cmpImm b
  | .bne b | .cmpIndY b | .dcpIndY b | .nopZpXD4 b | .cmpZpX b | .decZpX b | .dcpZpX b
  | .cpxImm b | .sbcIndX b | .nopImmE2 b | .isbIndX b | .cpxZp b | .sbcZp b | .incZp b | .isbZp b
  | .sbcImm b | .sbcImmEB b | .beq b | .sbcIndY b | .isbIndY b | .nopZpXF4 b | .sbcZpX b
  | .incZpX b | .isbZpX b => [b]
  | .nopAbs0C w | .oraAbs w | .aslAbs w | .sloAbs w | .oraAbsY w | .sloAbsY w | .nopAbsX1C w
  | .oraAbsX w | .aslAbsX w | .sloAbsX w | .jsr w | .bitAbs w | .andAbs w | .rolAbs w | .rlaAbs w
  | .andAbsY w | .rlaAbsY w | .nopAbsX3C w | .andAbsX w | .rolAbsX w | .rlaAbsX w | .jmpAbs w
  | .eorAbs w | .lsrAbs w | .sreAbs w | .eorAbsY w | .sreAbsY w | .nopAbsX5C w | .eorAbsX w
  | .lsrAbsX w | .sreAbsX w | .jmpInd w | .adcAbs w | .rorAbs w | .rraAbs w | .adcAbsY w
  | .rraAbsY w | .nopAbsX7C w | .adcAbsX w | .rorAbsX w | .rraAbsX w | .styAbs w | .staAbs w
  | .stxAbs w | .saxAbs w | .staAbsY w | .shyAbsX w | .staAbsX w | .shxAbsY w | .ldyAbs w
  | .ldaAbs w | .ldxAbs w | .laxAbs w | .ldaAbsY w | .ldyAbsX w | .ldaAbsX w | .ldxAbsY w
  | .laxAbsY w | .cpyAbs w | .cmpAbs w | .decAbs w | .dcpAbs w | .cmpAbsY w | .dcpAbsY w
  | .nopAbsXDC w | .cmpAbsX w | .decAbsX w | .dcpAbsX w | .cpxAbs w | .sbcAbs w | .incAbs w
  | .isbAbs w | .sbcAbsY w | .isbAbsY w | .nopAbsXFC w | .sbcAbsX w | .incAbsX w | .isbAbsX w => [lo w, hi w]

/-- The bytes of an instruction: the opcode, then its operand bytes (rule R42). -/
def encode (i : Instr) : List Byte := i.opcode :: i.operands

/-- The length in bytes that an opcode fixes (rule R42).  An unsupported opcode has length 1: no operand byte
of it is read (rule R153). -/
def lengthOf (op : Byte) : Nat := (encode (decodeOp op 0x00#8 0x00#8)).length

/-- Decoding any list of bytes: the instruction at its head and the bytes left over, or the reason there is
none.  Every opcode byte decodes (rule R44). -/
def decode : List Byte → Except DecodeError (Instr × List Byte)
  | [] => .error .empty
  | op :: rest =>
    match lengthOf op, rest with
    | 1, rest => .ok (decodeOp op 0x00#8 0x00#8, rest)
    | 2, b1 :: rest => .ok (decodeOp op b1 0x00#8, rest)
    | 3, b1 :: b2 :: rest => .ok (decodeOp op b1 b2, rest)
    | _, _ => .error (.truncated op)

/-! ## The table's numbering of bits -/

/-- The three bytes of an instruction whose bits are `w`, bit 0 the least significant bit of the first byte;
every bit from `nbits` up is 0. -/
def tableBytes (nbits w : Nat) : List Byte :=
  [0, 8, 16].map fun k => if k < nbits then BitVec.ofNat 8 (w >>> k) else 0x00#8

/-- The instruction the decoder reads from an instruction whose bits are `w`. -/
def decodeTableWord (nbits w : Nat) : Option Instr :=
  match decode (tableBytes nbits w) with
  | .ok (i, _) => some i
  | .error _ => none

end Sys2Proof
end

