-- ==== Sys2Proof/Machine/Params.lean ====
section
/-! DEFINITION. The value this hardware gives each OPEN parameter of 00_scope.md §5, which every rule of the
spec assumes.  The parameters' types are in Config.lean.  They stand here so that a repair may mend a value. -/

namespace Sys2Proof.Machine.Params

/-- BRANCH_PAGE_BASIS (decision D10, conflict C2). -/
def branchPageBasis : Config.BranchPageBasis := .nextInstruction

/-- DMA_PARITY_BASIS (decision D11). -/
def dmaParityBasis : Config.DmaParityBasis := .totalPlusCurrent

/-- DMA_CYCLES_EVEN (rule R37). -/
def dmaCyclesEven : Nat := 513

/-- DMA_CYCLES_ODD (rule R37). -/
def dmaCyclesOdd : Nat := 514

/-- INTERRUPT_ENTRY_CYCLES (decision D13, rule R157). -/
def interruptEntryCycles : Nat := 7

/-- IRQ_ENTRY_STYLE (decision D14, rule R158). -/
def irqEntryStyle : Config.IrqEntryStyle := .sameAsBrk

/-- IRQ_MASKED_IN_CORE (decision D15, rule R158). -/
def irqMaskedInCore : Bool := true

/-- NMI_SETS_I (decision D16, rule R157). -/
def nmiSetsI : Bool := false

/-- NOP_MEMORY_LOAD (decision D8, rule R139). -/
def nopMemoryLoad : Bool := true

/-- SHXY_FORMULA (decision D29, rules R150 and R151). -/
def shxyFormula : Config.ShxyFormula := .hiPlusOneWithAddressCorruption

/-- ADMITTED_UNDOCUMENTED (decision D7): all 84 opcodes of rule R46. -/
def admittedUndocumented : List Byte := stableUndocumented

end Sys2Proof.Machine.Params
end

