-- ==== Sys2Proof/Machine/Ops.lean ====
section
/-! DEFINITION. The named operations: the bus primitives (20_memory.md §2), the OAM DMA (§6), the stack (§5),
the branch of rule R108, the register snapshot, the interrupt entry and exit (60_exceptions.md §5 and §6),
and the unsupported-opcode condition (§2). -/

namespace Sys2Proof.Machine

/-- `zext_16(v)` (00_scope.md §6). -/
def zext (v : Byte) : Addr := v.setWidth 16

/-- `sext_16(v)` (00_scope.md §6). -/
def sext (v : Byte) : Addr := v.signExtend 16

/-! ## Bus primitives -/

/-- What the bus answers to the next load, of address `a`: the head of the oracle's list, or the memory's byte
where that says nothing (decision D2, log entry 1). -/
def Bus.answer (b : Bus) (a : Addr) : Byte :=
  match b.answers with
  | some v :: _ => v
  | _ => b.mem.read a.toNat

/-- `load_byte(a)` on the bus: one transaction. -/
def Bus.load (b : Bus) (a : Addr) : Byte × Bus :=
  (b.answer a, { b with answers := b.answers.tail, trace := .load a (b.answer a) :: b.trace })

/-- `store_byte(a, v)` on the bus: one transaction. -/
def Bus.store (b : Bus) (a : Addr) (v : Byte) : Bus :=
  { b with mem := b.mem.write a.toNat v, trace := .store a v :: b.trace }

/-- `MemRead(a, 1)`: exactly one `load_byte` (rule R27). -/
def memRead (a : Addr) (s : State) : Byte × State :=
  ((s.bus.load a).1, s.setBus (s.bus.load a).2)

/-- `LoadWord(a)`: the low byte at `a` first, then the high byte at `a +16 1` (rule R29). -/
def loadWord (a : Addr) (s : State) : Addr × State :=
  let l := memRead a s
  let h := memRead (a + 1) l.2
  (word h.1 l.1, h.2)

/-! ## OAM DMA -/

/-- One byte of the copy: load `v:i`, then store it to OAM_DATA_ADDR; both raw transactions (rule R37). -/
def oamCopyByte (v : Byte) (i : Nat) (b : Bus) : Bus :=
  let t := b.load (word v (BitVec.ofNat 8 i))
  t.2.store Config.oamDataAddr t.1

/-- The next `n` bytes of the copy, from index `i` upward (rule R37).  It is irreducible so that no proof
unrolls its 256 rounds by accident; its equations and Laws/Bus.lean say what it does. -/
@[irreducible] def oamCopy (v : Byte) : Nat → Nat → Bus → Bus
  | 0, _, b => b
  | n + 1, i, b => oamCopy v n (i + 1) (oamCopyByte v i b)

/-- The cycle count whose parity the DMA cost reads (rule R37, DMA_PARITY_BASIS). -/
def dmaParityCount (basis : Config.DmaParityBasis) (total cyc : Nat) : Nat :=
  match basis with
  | .totalPlusCurrent => total + cyc
  | .totalBeforeStep => total

/-- The cost of an OAM DMA triggered at the count `t` (rule R37). -/
def dmaCycles (t : Nat) : Nat :=
  if t % 2 = 0 then Params.dmaCyclesEven else Params.dmaCyclesOdd

/-- The OAM DMA of page `v`: 256 bytes in ascending order, then the charge (rule R37). -/
def oamDma (v : Byte) (s : State) : State :=
  let t := dmaParityCount Params.dmaParityBasis s.totalCycles s.cyc
  (s.setBus (oamCopy v 256 0 s.bus)).addCyc (dmaCycles t)

/-- `MemWrite(a, 1, v)`: one `store_byte`, then the OAM DMA if `a` is its trigger (rule R28). -/
def memWrite (a : Addr) (v : Byte) (s : State) : State :=
  let s1 := s.setBus (s.bus.store a v)
  if a = Config.dmaTriggerAddr then oamDma v s1 else s1

/-! ## Stack -/

/-- `0x01:SP` (rule R8). -/
def stackAddr (sp : Byte) : Addr := word Config.stackPage sp

/-- `Push(v)`: store at the stack address, then decrement SP modulo 256 (rule R35). -/
def push (v : Byte) (s : State) : State :=
  let s1 := memWrite (stackAddr s.regs.sp) v s
  s1.setSp (s1.regs.sp - 1)

/-- `Pull()`: increment SP modulo 256, then load from the new stack address (rule R36). -/
def pull (s : State) : Byte × State :=
  let s1 := s.setSp (s.regs.sp + 1)
  memRead (stackAddr s1.regs.sp) s1

/-! ## Branches -/

/-- The extra cycle of a taken branch whose target is on another page than `next`, the address after the branch,
or than the branch's opcode (rule R108, BRANCH_PAGE_BASIS). -/
def branchPageCycles (basis : Config.BranchPageBasis) (next target : Addr) : Nat :=
  let own := match basis with
    | .nextInstruction => next
    | .opcodeAddress => next - 2
  if hi target = hi own then 0 else 1

/-- `Branch(cond)` with displacement byte `d`; PC is already past it (rule R108). -/
def branch (cond : Bool) (d : Byte) (s : State) : State :=
  if cond then
    let t := s.regs.pc + sext d
    (s.addCyc (1 + branchPageCycles Params.branchPageBasis s.regs.pc t)).setPc t
  else s

/-! ## Snapshot -/

/-- `snapshot()`: the register record with the packed P (rule R171). -/
def snapshot (s : State) : Snapshot where
  a := s.regs.a
  x := s.regs.x
  y := s.regs.y
  pc := s.regs.pc
  sp := s.regs.sp
  p := packP s.regs.p

/-! ## Taking an exception, and returning -/

/-- `EnterInterrupt(vector, pushed, set_i)`: push PC high then low, push the given status byte, set I if asked,
load PC from the vector (rule R156). -/
def enterInterrupt (vector : Addr) (pushed : Byte) (setI : Bool) (s : State) : State :=
  let s1 := push pushed (push (lo s.regs.pc) (push (hi s.regs.pc) s))
  let s2 := if setI then s1.setP { s1.regs.p with i := true } else s1
  let w := loadWord vector s2
  w.2.setPc w.1

/-- The exit: pull the status, then PC low and high; nothing is added to PC (rule R160). -/
def returnFromInterrupt (s : State) : State :=
  let p := pull s
  let l := pull (p.2.setP (unpackPull p.1))
  let h := pull l.2
  h.2.setPc (word h.1 l.1)

/-! ## The unsupported opcode -/

/-- The fault record of opcode `op`, taken in the state after the opcode fetch (rule R153). -/
def unsupportedRecord (op : Byte) (s : State) : FaultRecord := { opcode := op, snapshot := snapshot s }

/-- `raise UnsupportedOpcode(op, snapshot())`: the fatal result (rule R153). -/
def raiseUnsupported (op : Byte) (s : State) : Result := .fault (.unsupportedOpcode (unsupportedRecord op s))

end Sys2Proof.Machine
end

