-- ==== Sys2Proof/Machine/Operands.lean ====
section
/-! DEFINITION. The address-mode resolver (41_addressing_modes.md) and the three patterns of rule R58 (JMP, JSR,
SHY and SHX resolve directly, as their own rules write).  The operand bytes are already fetched and PC is
already past them (Fetch.lean), so a mode carries its operand bytes. -/

namespace Sys2Proof.Machine

/-- The thirteen resolver modes (rules R59 to R71) with their operand bytes. -/
inductive Mode where
  /-- immediate (rule R59) -/
  | imm (m : Byte)
  /-- zero page (rule R60) -/
  | zp (z : Byte)
  /-- zero page,X (rule R61) -/
  | zpX (z : Byte)
  /-- zero page,Y (rule R62) -/
  | zpY (z : Byte)
  /-- absolute (rule R63) -/
  | abs (w : Addr)
  /-- absolute,X with page-cross penalty (rule R64) -/
  | absXRead (w : Addr)
  /-- absolute,X without penalty (rule R65) -/
  | absXWrite (w : Addr)
  /-- absolute,Y with page-cross penalty (rule R66) -/
  | absYRead (w : Addr)
  /-- absolute,Y without penalty (rule R67) -/
  | absYWrite (w : Addr)
  /-- indirect, JMP only (rule R68) -/
  | indirect (w : Addr)
  /-- indexed indirect (rule R69) -/
  | indX (z : Byte)
  /-- indirect indexed with page-cross penalty (rule R70) -/
  | indYRead (z : Byte)
  /-- indirect indexed without penalty (rule R71) -/
  | indYWrite (z : Byte)
  deriving DecidableEq, Repr

/-- The page-cross penalty: 1 exactly when the high bytes differ (rule R72). -/
def pageCross (base ea : Addr) : Nat := if hi ea = hi base then 0 else 1

/-- `base +16 index`, charging the penalty if this variant does (rules R64 to R67, R70 and R71). -/
def indexed (charge : Bool) (base : Addr) (index : Byte) (s : State) : Addr × State :=
  let ea := base + zext index
  (ea, if charge then s.addCyc (pageCross base ea) else s)

/-- The pointer at zero-page address `p`; its second byte wraps within the zero page (rules R69 to R71). -/
def zeroPagePointer (p : Byte) (s : State) : Addr × State :=
  let l := memRead (zext p) s
  let h := memRead (zext (p + 1)) l.2
  (word h.1 l.1, h.2)

/-- The pointer at `p`; its second byte is read from the same page (rule R68). -/
def samePagePointer (p : Addr) (s : State) : Addr × State :=
  let l := memRead p s
  let h := memRead ((p &&& 0xFF00#16) ||| ((p + 1) &&& 0x00FF#16)) l.2
  (word h.1 l.1, h.2)

/-- `Resolve(mode)`: the effective address, after the mode's pointer loads and penalty (rule R57). -/
def resolve (m : Mode) (s : State) : Addr × State :=
  match m with
  | .imm _ => (s.regs.pc - 1, s)
  | .zp z => (zext z, s)
  | .zpX z => (zext (z + s.regs.x), s)
  | .zpY z => (zext (z + s.regs.y), s)
  | .abs w => (w, s)
  | .absXRead w => indexed true w s.regs.x s
  | .absXWrite w => indexed false w s.regs.x s
  | .absYRead w => indexed true w s.regs.y s
  | .absYWrite w => indexed false w s.regs.y s
  | .indirect w => samePagePointer w s
  | .indX z => zeroPagePointer (z + s.regs.x) s
  | .indYRead z => let b := zeroPagePointer z s; indexed true b.1 b.2.regs.y b.2
  | .indYWrite z => let b := zeroPagePointer z s; indexed false b.1 b.2.regs.y b.2

/-- `ReadOp(mode)` (rule R58).  The immediate form's load is the fetch of its operand byte (rules R59 and R76), which
has been made. -/
def readOp (m : Mode) (s : State) : Byte × State :=
  match m with
  | .imm v => (v, s)
  | m => let r := resolve m s; memRead r.1 r.2

/-- `WriteOp(mode, v)` (rule R58). -/
def writeOp (m : Mode) (v : Byte) (s : State) : State :=
  let r := resolve m s
  memWrite r.1 v r.2

/-- `RMWOp(mode, f)`: one load, the function `f` with its flags, one store of the same address; the result is
returned too (rule R58). -/
def rmwOp (m : Mode) (f : Byte → Flags → Byte × Flags) (s : State) : Byte × State :=
  let r := resolve m s
  let v := memRead r.1 r.2
  let q := f v.1 v.2.regs.p
  (q.1, memWrite r.1 q.1 (v.2.setP q.2))

end Sys2Proof.Machine
end

