-- ==== Sys2Proof/Machine/Alu.lean ====
section
/-! DEFINITION. Add, subtract, logic, bit test and compare (43_alu.md, rules R86 to R94). -/

namespace Sys2Proof.Machine

/-- ADC: add a memory operand and the carry to A (rule R86). -/
def opAdc (m : Mode) (s : State) : State :=
  let r := readOp m s
  let q := addWithCarry r.2.regs.a r.1 r.2.regs.p
  (r.2.setA q.1).setP q.2

/-- 0x61, (zp,X) (rule R69). -/
def execAdcIndX (z : Byte) (s : State) : Result := .next (opAdc (.indX z) s)

/-- 0x65, zp (rule R60). -/
def execAdcZp (z : Byte) (s : State) : Result := .next (opAdc (.zp z) s)

/-- 0x69, #i8 (rule R59). -/
def execAdcImm (m : Byte) (s : State) : Result := .next (opAdc (.imm m) s)

/-- 0x6D, abs (rule R63). -/
def execAdcAbs (w : Addr) (s : State) : Result := .next (opAdc (.abs w) s)

/-- 0x71, (zp),Y (rule R70). -/
def execAdcIndY (z : Byte) (s : State) : Result := .next (opAdc (.indYRead z) s)

/-- 0x75, zp,X (rule R61). -/
def execAdcZpX (z : Byte) (s : State) : Result := .next (opAdc (.zpX z) s)

/-- 0x79, abs,Y (rule R66). -/
def execAdcAbsY (w : Addr) (s : State) : Result := .next (opAdc (.absYRead w) s)

/-- 0x7D, abs,X (rule R64). -/
def execAdcAbsX (w : Addr) (s : State) : Result := .next (opAdc (.absXRead w) s)

/-- SBC: subtract a memory operand and the borrow from A (rule R87). -/
def opSbc (m : Mode) (s : State) : State :=
  let r := readOp m s
  let q := subtractWithCarry r.2.regs.a r.1 r.2.regs.p
  (r.2.setA q.1).setP q.2

/-- 0xE1, (zp,X) (rule R69). -/
def execSbcIndX (z : Byte) (s : State) : Result := .next (opSbc (.indX z) s)

/-- 0xE5, zp (rule R60). -/
def execSbcZp (z : Byte) (s : State) : Result := .next (opSbc (.zp z) s)

/-- 0xE9, #i8 (rule R59). -/
def execSbcImm (m : Byte) (s : State) : Result := .next (opSbc (.imm m) s)

/-- 0xED, abs (rule R63). -/
def execSbcAbs (w : Addr) (s : State) : Result := .next (opSbc (.abs w) s)

/-- 0xF1, (zp),Y (rule R70). -/
def execSbcIndY (z : Byte) (s : State) : Result := .next (opSbc (.indYRead z) s)

/-- 0xF5, zp,X (rule R61). -/
def execSbcZpX (z : Byte) (s : State) : Result := .next (opSbc (.zpX z) s)

/-- 0xF9, abs,Y (rule R66). -/
def execSbcAbsY (w : Addr) (s : State) : Result := .next (opSbc (.absYRead w) s)

/-- 0xFD, abs,X (rule R64). -/
def execSbcAbsX (w : Addr) (s : State) : Result := .next (opSbc (.absXRead w) s)

/-- AND: A and a memory operand (rule R88). -/
def opAnd (m : Mode) (s : State) : State :=
  let r := readOp m s
  let v := r.2.regs.a &&& r.1
  (r.2.setA v).setP (setZN v r.2.regs.p)

/-- 0x21, (zp,X) (rule R69). -/
def execAndIndX (z : Byte) (s : State) : Result := .next (opAnd (.indX z) s)

/-- 0x25, zp (rule R60). -/
def execAndZp (z : Byte) (s : State) : Result := .next (opAnd (.zp z) s)

/-- 0x29, #i8 (rule R59). -/
def execAndImm (m : Byte) (s : State) : Result := .next (opAnd (.imm m) s)

/-- 0x2D, abs (rule R63). -/
def execAndAbs (w : Addr) (s : State) : Result := .next (opAnd (.abs w) s)

/-- 0x31, (zp),Y (rule R70). -/
def execAndIndY (z : Byte) (s : State) : Result := .next (opAnd (.indYRead z) s)

/-- 0x35, zp,X (rule R61). -/
def execAndZpX (z : Byte) (s : State) : Result := .next (opAnd (.zpX z) s)

/-- 0x39, abs,Y (rule R66). -/
def execAndAbsY (w : Addr) (s : State) : Result := .next (opAnd (.absYRead w) s)

/-- 0x3D, abs,X (rule R64). -/
def execAndAbsX (w : Addr) (s : State) : Result := .next (opAnd (.absXRead w) s)

/-- ORA: A or a memory operand (rule R89). -/
def opOra (m : Mode) (s : State) : State :=
  let r := readOp m s
  let v := r.2.regs.a ||| r.1
  (r.2.setA v).setP (setZN v r.2.regs.p)

/-- 0x01, (zp,X) (rule R69). -/
def execOraIndX (z : Byte) (s : State) : Result := .next (opOra (.indX z) s)

/-- 0x05, zp (rule R60). -/
def execOraZp (z : Byte) (s : State) : Result := .next (opOra (.zp z) s)

/-- 0x09, #i8 (rule R59). -/
def execOraImm (m : Byte) (s : State) : Result := .next (opOra (.imm m) s)

/-- 0x0D, abs (rule R63). -/
def execOraAbs (w : Addr) (s : State) : Result := .next (opOra (.abs w) s)

/-- 0x11, (zp),Y (rule R70). -/
def execOraIndY (z : Byte) (s : State) : Result := .next (opOra (.indYRead z) s)

/-- 0x15, zp,X (rule R61). -/
def execOraZpX (z : Byte) (s : State) : Result := .next (opOra (.zpX z) s)

/-- 0x19, abs,Y (rule R66). -/
def execOraAbsY (w : Addr) (s : State) : Result := .next (opOra (.absYRead w) s)

/-- 0x1D, abs,X (rule R64). -/
def execOraAbsX (w : Addr) (s : State) : Result := .next (opOra (.absXRead w) s)

/-- EOR: A exclusive-or a memory operand (rule R90). -/
def opEor (m : Mode) (s : State) : State :=
  let r := readOp m s
  let v := r.2.regs.a ^^^ r.1
  (r.2.setA v).setP (setZN v r.2.regs.p)

/-- 0x41, (zp,X) (rule R69). -/
def execEorIndX (z : Byte) (s : State) : Result := .next (opEor (.indX z) s)

/-- 0x45, zp (rule R60). -/
def execEorZp (z : Byte) (s : State) : Result := .next (opEor (.zp z) s)

/-- 0x49, #i8 (rule R59). -/
def execEorImm (m : Byte) (s : State) : Result := .next (opEor (.imm m) s)

/-- 0x4D, abs (rule R63). -/
def execEorAbs (w : Addr) (s : State) : Result := .next (opEor (.abs w) s)

/-- 0x51, (zp),Y (rule R70). -/
def execEorIndY (z : Byte) (s : State) : Result := .next (opEor (.indYRead z) s)

/-- 0x55, zp,X (rule R61). -/
def execEorZpX (z : Byte) (s : State) : Result := .next (opEor (.zpX z) s)

/-- 0x59, abs,Y (rule R66). -/
def execEorAbsY (w : Addr) (s : State) : Result := .next (opEor (.absYRead w) s)

/-- 0x5D, abs,X (rule R64). -/
def execEorAbsX (w : Addr) (s : State) : Result := .next (opEor (.absXRead w) s)

/-- BIT: test A against a memory operand (rule R91). -/
def opBit (m : Mode) (s : State) : State :=
  let r := readOp m s
  r.2.setP (bitFlags r.2.regs.a r.1 r.2.regs.p)

/-- 0x24, zp (rule R60). -/
def execBitZp (z : Byte) (s : State) : Result := .next (opBit (.zp z) s)

/-- 0x2C, abs (rule R63). -/
def execBitAbs (w : Addr) (s : State) : Result := .next (opBit (.abs w) s)

/-- CMP: compare A with a memory operand (rule R92). -/
def opCmp (m : Mode) (s : State) : State :=
  let r := readOp m s
  r.2.setP (compareFlags r.2.regs.a r.1 r.2.regs.p)

/-- 0xC1, (zp,X) (rule R69). -/
def execCmpIndX (z : Byte) (s : State) : Result := .next (opCmp (.indX z) s)

/-- 0xC5, zp (rule R60). -/
def execCmpZp (z : Byte) (s : State) : Result := .next (opCmp (.zp z) s)

/-- 0xC9, #i8 (rule R59). -/
def execCmpImm (m : Byte) (s : State) : Result := .next (opCmp (.imm m) s)

/-- 0xCD, abs (rule R63). -/
def execCmpAbs (w : Addr) (s : State) : Result := .next (opCmp (.abs w) s)

/-- 0xD1, (zp),Y (rule R70). -/
def execCmpIndY (z : Byte) (s : State) : Result := .next (opCmp (.indYRead z) s)

/-- 0xD5, zp,X (rule R61). -/
def execCmpZpX (z : Byte) (s : State) : Result := .next (opCmp (.zpX z) s)

/-- 0xD9, abs,Y (rule R66). -/
def execCmpAbsY (w : Addr) (s : State) : Result := .next (opCmp (.absYRead w) s)

/-- 0xDD, abs,X (rule R64). -/
def execCmpAbsX (w : Addr) (s : State) : Result := .next (opCmp (.absXRead w) s)

/-- CPX: compare X with a memory operand (rule R93). -/
def opCpx (m : Mode) (s : State) : State :=
  let r := readOp m s
  r.2.setP (compareFlags r.2.regs.x r.1 r.2.regs.p)

/-- 0xE0, #i8 (rule R59). -/
def execCpxImm (m : Byte) (s : State) : Result := .next (opCpx (.imm m) s)

/-- 0xE4, zp (rule R60). -/
def execCpxZp (z : Byte) (s : State) : Result := .next (opCpx (.zp z) s)

/-- 0xEC, abs (rule R63). -/
def execCpxAbs (w : Addr) (s : State) : Result := .next (opCpx (.abs w) s)

/-- CPY: compare Y with a memory operand (rule R94). -/
def opCpy (m : Mode) (s : State) : State :=
  let r := readOp m s
  r.2.setP (compareFlags r.2.regs.y r.1 r.2.regs.p)

/-- 0xC0, #i8 (rule R59). -/
def execCpyImm (m : Byte) (s : State) : Result := .next (opCpy (.imm m) s)

/-- 0xC4, zp (rule R60). -/
def execCpyZp (z : Byte) (s : State) : Result := .next (opCpy (.zp z) s)

/-- 0xCC, abs (rule R63). -/
def execCpyAbs (w : Addr) (s : State) : Result := .next (opCpy (.abs w) s)

end Sys2Proof.Machine
end

