-- ==== Sys2Proof/Machine/Control.lean ====
section
/-! DEFINITION. Branches, jumps, subroutine call and return (45_control_transfer.md, rules R108 to R119). -/

namespace Sys2Proof.Machine

/-- BPL, 0x10: `Branch(P.N == 0)` (rules R109 and R108). -/
def execBpl (d : Byte) (s : State) : Result := .next (branch (!s.regs.p.n) d s)

/-- BMI, 0x30: `Branch(P.N == 1)` (rules R110 and R108). -/
def execBmi (d : Byte) (s : State) : Result := .next (branch (s.regs.p.n) d s)

/-- BVC, 0x50: `Branch(P.V == 0)` (rules R111 and R108). -/
def execBvc (d : Byte) (s : State) : Result := .next (branch (!s.regs.p.v) d s)

/-- BVS, 0x70: `Branch(P.V == 1)` (rules R112 and R108). -/
def execBvs (d : Byte) (s : State) : Result := .next (branch (s.regs.p.v) d s)

/-- BCC, 0x90: `Branch(P.C == 0)` (rules R113 and R108). -/
def execBcc (d : Byte) (s : State) : Result := .next (branch (!s.regs.p.c) d s)

/-- BCS, 0xB0: `Branch(P.C == 1)` (rules R114 and R108). -/
def execBcs (d : Byte) (s : State) : Result := .next (branch (s.regs.p.c) d s)

/-- BNE, 0xD0: `Branch(P.Z == 0)` (rules R115 and R108). -/
def execBne (d : Byte) (s : State) : Result := .next (branch (!s.regs.p.z) d s)

/-- BEQ, 0xF0: `Branch(P.Z == 1)` (rules R116 and R108). -/
def execBeq (d : Byte) (s : State) : Result := .next (branch (s.regs.p.z) d s)

/-- JMP: PC receives the effective address; no data load follows (rule R117). -/
def opJmp (m : Mode) (s : State) : State :=
  let r := resolve m s
  r.2.setPc r.1

/-- 0x4C, abs (rule R63). -/
def execJmpAbs (w : Addr) (s : State) : Result := .next (opJmp (.abs w) s)

/-- 0x6C, (abs) (rule R68). -/
def execJmpInd (w : Addr) (s : State) : Result := .next (opJmp (.indirect w) s)

/-- JSR: push the address of the instruction's last byte, high then low, and jump (rule R118, decision D19). -/
def opJsr (w : Addr) (s : State) : State :=
  let t := resolve (.abs w) s
  let r := t.2.regs.pc - 1
  (push (lo r) (push (hi r) t.2)).setPc t.1

/-- 0x20, abs (rule R63). -/
def execJsr (w : Addr) (s : State) : Result := .next (opJsr w s)

/-- RTS: pull PC low then high and add one (rule R119). -/
def opRts (s : State) : State :=
  let l := pull s
  let h := pull l.2
  h.2.setPc (word h.1 l.1 + 1)

/-- 0x60, implied (rule R75). -/
def execRts (s : State) : Result := .next (opRts s)

end Sys2Proof.Machine
end

