-- ==== Sys2Proof/Machine/Interrupt.lean ====
section
/-! DEFINITION. BRK, RTI and the unsupported opcodes (60_exceptions.md, rules R153, R159 and R160). -/

namespace Sys2Proof.Machine

/-- BRK: skip the padding byte without reading it, then the IRQ/BRK entry with bit 4 of the pushed byte set, and
I set after the push; I does not mask it (rules R156 and R159). -/
def opBrk (s : State) : State :=
  let s1 := s.setPc (s.regs.pc + 1)
  enterInterrupt Config.irqVector (packPush s1.regs.p) true s1

/-- 0x00, implied (rule R75). -/
def execBrk (s : State) : Result := .next (opBrk s)

/-- RTI: the interrupt exit (rule R160). -/
def opRti (s : State) : State := returnFromInterrupt s

/-- 0x40, implied (rule R75). -/
def execRti (s : State) : Result := .next (opRti s)

/-! The 21 unsupported opcodes (rules R47 and R153): each is the fatal UnsupportedOpcode result, with the
registers as they are after the opcode fetch.  Nothing is executed, pushed or stored. -/

/-- 0x02, JAM: unsupported (rule R153). -/
def execJam02 (s : State) : Result := raiseUnsupported 0x02#8 s

/-- 0x12, JAM: unsupported (rule R153). -/
def execJam12 (s : State) : Result := raiseUnsupported 0x12#8 s

/-- 0x22, JAM: unsupported (rule R153). -/
def execJam22 (s : State) : Result := raiseUnsupported 0x22#8 s

/-- 0x32, JAM: unsupported (rule R153). -/
def execJam32 (s : State) : Result := raiseUnsupported 0x32#8 s

/-- 0x42, JAM: unsupported (rule R153). -/
def execJam42 (s : State) : Result := raiseUnsupported 0x42#8 s

/-- 0x52, JAM: unsupported (rule R153). -/
def execJam52 (s : State) : Result := raiseUnsupported 0x52#8 s

/-- 0x62, JAM: unsupported (rule R153). -/
def execJam62 (s : State) : Result := raiseUnsupported 0x62#8 s

/-- 0x72, JAM: unsupported (rule R153). -/
def execJam72 (s : State) : Result := raiseUnsupported 0x72#8 s

/-- 0x92, JAM: unsupported (rule R153). -/
def execJam92 (s : State) : Result := raiseUnsupported 0x92#8 s

/-- 0xB2, JAM: unsupported (rule R153). -/
def execJamB2 (s : State) : Result := raiseUnsupported 0xB2#8 s

/-- 0xD2, JAM: unsupported (rule R153). -/
def execJamD2 (s : State) : Result := raiseUnsupported 0xD2#8 s

/-- 0xF2, JAM: unsupported (rule R153). -/
def execJamF2 (s : State) : Result := raiseUnsupported 0xF2#8 s

/-- 0x4B, ALR: unsupported (rule R153). -/
def execAlr (s : State) : Result := raiseUnsupported 0x4B#8 s

/-- 0x6B, ARR: unsupported (rule R153). -/
def execArr (s : State) : Result := raiseUnsupported 0x6B#8 s

/-- 0x8B, XAA: unsupported (rule R153). -/
def execXaa (s : State) : Result := raiseUnsupported 0x8B#8 s

/-- 0x93, AHX: unsupported (rule R153). -/
def execAhx93 (s : State) : Result := raiseUnsupported 0x93#8 s

/-- 0x9F, AHX: unsupported (rule R153). -/
def execAhx9F (s : State) : Result := raiseUnsupported 0x9F#8 s

/-- 0x9B, TAS: unsupported (rule R153). -/
def execTas (s : State) : Result := raiseUnsupported 0x9B#8 s

/-- 0xAB, LXA: unsupported (rule R153). -/
def execLxa (s : State) : Result := raiseUnsupported 0xAB#8 s

/-- 0xBB, LAS: unsupported (rule R153). -/
def execLas (s : State) : Result := raiseUnsupported 0xBB#8 s

/-- 0xCB, AXS: unsupported (rule R153). -/
def execAxs (s : State) : Result := raiseUnsupported 0xCB#8 s

end Sys2Proof.Machine
end

