-- ==== Sys2Proof/Machine/LoadStore.lean ====
section
/-! DEFINITION. Loads and stores (42_load_store.md, rules R76 to R81): one operation per mnemonic, then one meaning per row
of the opcode table. -/

namespace Sys2Proof.Machine

/-- LDA: load one byte into A, Z and N from it (rule R76). -/
def opLda (m : Mode) (s : State) : State :=
  let r := readOp m s
  (r.2.setA r.1).setP (setZN r.1 r.2.regs.p)

/-- 0xA1, (zp,X) (rule R69). -/
def execLdaIndX (z : Byte) (s : State) : Result := .next (opLda (.indX z) s)

/-- 0xA5, zp (rule R60). -/
def execLdaZp (z : Byte) (s : State) : Result := .next (opLda (.zp z) s)

/-- 0xA9, #i8 (rule R59). -/
def execLdaImm (m : Byte) (s : State) : Result := .next (opLda (.imm m) s)

/-- 0xAD, abs (rule R63). -/
def execLdaAbs (w : Addr) (s : State) : Result := .next (opLda (.abs w) s)

/-- 0xB1, (zp),Y (rule R70). -/
def execLdaIndY (z : Byte) (s : State) : Result := .next (opLda (.indYRead z) s)

/-- 0xB5, zp,X (rule R61). -/
def execLdaZpX (z : Byte) (s : State) : Result := .next (opLda (.zpX z) s)

/-- 0xB9, abs,Y (rule R66). -/
def execLdaAbsY (w : Addr) (s : State) : Result := .next (opLda (.absYRead w) s)

/-- 0xBD, abs,X (rule R64). -/
def execLdaAbsX (w : Addr) (s : State) : Result := .next (opLda (.absXRead w) s)

/-- LDX: load one byte into X, Z and N from it (rule R77). -/
def opLdx (m : Mode) (s : State) : State :=
  let r := readOp m s
  (r.2.setX r.1).setP (setZN r.1 r.2.regs.p)

/-- 0xA2, #i8 (rule R59). -/
def execLdxImm (m : Byte) (s : State) : Result := .next (opLdx (.imm m) s)

/-- 0xA6, zp (rule R60). -/
def execLdxZp (z : Byte) (s : State) : Result := .next (opLdx (.zp z) s)

/-- 0xAE, abs (rule R63). -/
def execLdxAbs (w : Addr) (s : State) : Result := .next (opLdx (.abs w) s)

/-- 0xB6, zp,Y (rule R62). -/
def execLdxZpY (z : Byte) (s : State) : Result := .next (opLdx (.zpY z) s)

/-- 0xBE, abs,Y (rule R66). -/
def execLdxAbsY (w : Addr) (s : State) : Result := .next (opLdx (.absYRead w) s)

/-- LDY: load one byte into Y, Z and N from it (rule R78). -/
def opLdy (m : Mode) (s : State) : State :=
  let r := readOp m s
  (r.2.setY r.1).setP (setZN r.1 r.2.regs.p)

/-- 0xA0, #i8 (rule R59). -/
def execLdyImm (m : Byte) (s : State) : Result := .next (opLdy (.imm m) s)

/-- 0xA4, zp (rule R60). -/
def execLdyZp (z : Byte) (s : State) : Result := .next (opLdy (.zp z) s)

/-- 0xAC, abs (rule R63). -/
def execLdyAbs (w : Addr) (s : State) : Result := .next (opLdy (.abs w) s)

/-- 0xB4, zp,X (rule R61). -/
def execLdyZpX (z : Byte) (s : State) : Result := .next (opLdy (.zpX z) s)

/-- 0xBC, abs,X (rule R64). -/
def execLdyAbsX (w : Addr) (s : State) : Result := .next (opLdy (.absXRead w) s)

/-- STA: store A; no flag is written (rule R79). -/
def opSta (m : Mode) (s : State) : State := writeOp m s.regs.a s

/-- 0x81, (zp,X) (rule R69). -/
def execStaIndX (z : Byte) (s : State) : Result := .next (opSta (.indX z) s)

/-- 0x85, zp (rule R60). -/
def execStaZp (z : Byte) (s : State) : Result := .next (opSta (.zp z) s)

/-- 0x8D, abs (rule R63). -/
def execStaAbs (w : Addr) (s : State) : Result := .next (opSta (.abs w) s)

/-- 0x91, (zp),Y (rule R71). -/
def execStaIndY (z : Byte) (s : State) : Result := .next (opSta (.indYWrite z) s)

/-- 0x95, zp,X (rule R61). -/
def execStaZpX (z : Byte) (s : State) : Result := .next (opSta (.zpX z) s)

/-- 0x99, abs,Y (rule R67). -/
def execStaAbsY (w : Addr) (s : State) : Result := .next (opSta (.absYWrite w) s)

/-- 0x9D, abs,X (rule R65). -/
def execStaAbsX (w : Addr) (s : State) : Result := .next (opSta (.absXWrite w) s)

/-- STX: store X; no flag is written (rule R80). -/
def opStx (m : Mode) (s : State) : State := writeOp m s.regs.x s

/-- 0x86, zp (rule R60). -/
def execStxZp (z : Byte) (s : State) : Result := .next (opStx (.zp z) s)

/-- 0x8E, abs (rule R63). -/
def execStxAbs (w : Addr) (s : State) : Result := .next (opStx (.abs w) s)

/-- 0x96, zp,Y (rule R62). -/
def execStxZpY (z : Byte) (s : State) : Result := .next (opStx (.zpY z) s)

/-- STY: store Y; no flag is written (rule R81). -/
def opSty (m : Mode) (s : State) : State := writeOp m s.regs.y s

/-- 0x84, zp (rule R60). -/
def execStyZp (z : Byte) (s : State) : Result := .next (opSty (.zp z) s)

/-- 0x8C, abs (rule R63). -/
def execStyAbs (w : Addr) (s : State) : Result := .next (opSty (.abs w) s)

/-- 0x94, zp,X (rule R61). -/
def execStyZpX (z : Byte) (s : State) : Result := .next (opSty (.zpX z) s)

end Sys2Proof.Machine
end

