-- ==== Sys2Proof/Machine/ShiftIncDec.lean ====
section
/-! DEFINITION. Shifts, rotates, increments and decrements (44_shift_incdec.md, rules R97 to R106). -/

namespace Sys2Proof.Machine

/-- The memory form of ASL: shift left by one (rule R97). -/
def opAsl (m : Mode) (s : State) : State := (rmwOp m shiftL s).2

/-- The accumulator form of ASL (rules R97 and R75). -/
def opAslAcc (s : State) : State :=
  let q := shiftL s.regs.a s.regs.p
  (s.setA q.1).setP q.2

/-- 0x06, zp (rule R60). -/
def execAslZp (z : Byte) (s : State) : Result := .next (opAsl (.zp z) s)

/-- 0x0A, accumulator (rule R75). -/
def execAslA (s : State) : Result := .next (opAslAcc s)

/-- 0x0E, abs (rule R63). -/
def execAslAbs (w : Addr) (s : State) : Result := .next (opAsl (.abs w) s)

/-- 0x16, zp,X (rule R61). -/
def execAslZpX (z : Byte) (s : State) : Result := .next (opAsl (.zpX z) s)

/-- 0x1E, abs,X (rule R65). -/
def execAslAbsX (w : Addr) (s : State) : Result := .next (opAsl (.absXWrite w) s)

/-- The memory form of LSR: shift right by one (rule R98). -/
def opLsr (m : Mode) (s : State) : State := (rmwOp m shiftR s).2

/-- The accumulator form of LSR (rules R98 and R75). -/
def opLsrAcc (s : State) : State :=
  let q := shiftR s.regs.a s.regs.p
  (s.setA q.1).setP q.2

/-- 0x46, zp (rule R60). -/
def execLsrZp (z : Byte) (s : State) : Result := .next (opLsr (.zp z) s)

/-- 0x4A, accumulator (rule R75). -/
def execLsrA (s : State) : Result := .next (opLsrAcc s)

/-- 0x4E, abs (rule R63). -/
def execLsrAbs (w : Addr) (s : State) : Result := .next (opLsr (.abs w) s)

/-- 0x56, zp,X (rule R61). -/
def execLsrZpX (z : Byte) (s : State) : Result := .next (opLsr (.zpX z) s)

/-- 0x5E, abs,X (rule R65). -/
def execLsrAbsX (w : Addr) (s : State) : Result := .next (opLsr (.absXWrite w) s)

/-- The memory form of ROL: rotate left through the carry (rule R99). -/
def opRol (m : Mode) (s : State) : State := (rmwOp m rotL s).2

/-- The accumulator form of ROL (rules R99 and R75). -/
def opRolAcc (s : State) : State :=
  let q := rotL s.regs.a s.regs.p
  (s.setA q.1).setP q.2

/-- 0x26, zp (rule R60). -/
def execRolZp (z : Byte) (s : State) : Result := .next (opRol (.zp z) s)

/-- 0x2A, accumulator (rule R75). -/
def execRolA (s : State) : Result := .next (opRolAcc s)

/-- 0x2E, abs (rule R63). -/
def execRolAbs (w : Addr) (s : State) : Result := .next (opRol (.abs w) s)

/-- 0x36, zp,X (rule R61). -/
def execRolZpX (z : Byte) (s : State) : Result := .next (opRol (.zpX z) s)

/-- 0x3E, abs,X (rule R65). -/
def execRolAbsX (w : Addr) (s : State) : Result := .next (opRol (.absXWrite w) s)

/-- The memory form of ROR: rotate right through the carry (rule R100). -/
def opRor (m : Mode) (s : State) : State := (rmwOp m rotR s).2

/-- The accumulator form of ROR (rules R100 and R75). -/
def opRorAcc (s : State) : State :=
  let q := rotR s.regs.a s.regs.p
  (s.setA q.1).setP q.2

/-- 0x66, zp (rule R60). -/
def execRorZp (z : Byte) (s : State) : Result := .next (opRor (.zp z) s)

/-- 0x6A, accumulator (rule R75). -/
def execRorA (s : State) : Result := .next (opRorAcc s)

/-- 0x6E, abs (rule R63). -/
def execRorAbs (w : Addr) (s : State) : Result := .next (opRor (.abs w) s)

/-- 0x76, zp,X (rule R61). -/
def execRorZpX (z : Byte) (s : State) : Result := .next (opRor (.zpX z) s)

/-- 0x7E, abs,X (rule R65). -/
def execRorAbsX (w : Addr) (s : State) : Result := .next (opRor (.absXWrite w) s)

/-- INC: add one to a memory byte (rule R101). -/
def opInc (m : Mode) (s : State) : State := (rmwOp m incByte s).2

/-- 0xE6, zp (rule R60). -/
def execIncZp (z : Byte) (s : State) : Result := .next (opInc (.zp z) s)

/-- 0xEE, abs (rule R63). -/
def execIncAbs (w : Addr) (s : State) : Result := .next (opInc (.abs w) s)

/-- 0xF6, zp,X (rule R61). -/
def execIncZpX (z : Byte) (s : State) : Result := .next (opInc (.zpX z) s)

/-- 0xFE, abs,X (rule R65). -/
def execIncAbsX (w : Addr) (s : State) : Result := .next (opInc (.absXWrite w) s)

/-- DEC: subtract one from a memory byte (rule R102). -/
def opDec (m : Mode) (s : State) : State := (rmwOp m decByte s).2

/-- 0xC6, zp (rule R60). -/
def execDecZp (z : Byte) (s : State) : Result := .next (opDec (.zp z) s)

/-- 0xCE, abs (rule R63). -/
def execDecAbs (w : Addr) (s : State) : Result := .next (opDec (.abs w) s)

/-- 0xD6, zp,X (rule R61). -/
def execDecZpX (z : Byte) (s : State) : Result := .next (opDec (.zpX z) s)

/-- 0xDE, abs,X (rule R65). -/
def execDecAbsX (w : Addr) (s : State) : Result := .next (opDec (.absXWrite w) s)

/-- INX (rule R103). -/
def opInx (s : State) : State :=
  let q := incByte s.regs.x s.regs.p
  (s.setX q.1).setP q.2

/-- 0xE8, implied (rule R75). -/
def execInx (s : State) : Result := .next (opInx s)

/-- INY (rule R104). -/
def opIny (s : State) : State :=
  let q := incByte s.regs.y s.regs.p
  (s.setY q.1).setP q.2

/-- 0xC8, implied (rule R75). -/
def execIny (s : State) : Result := .next (opIny s)

/-- DEX (rule R105). -/
def opDex (s : State) : State :=
  let q := decByte s.regs.x s.regs.p
  (s.setX q.1).setP q.2

/-- 0xCA, implied (rule R75). -/
def execDex (s : State) : Result := .next (opDex s)

/-- DEY (rule R106). -/
def opDey (s : State) : State :=
  let q := decByte s.regs.y s.regs.p
  (s.setY q.1).setP q.2

/-- 0x88, implied (rule R75). -/
def execDey (s : State) : Result := .next (opDey s)

end Sys2Proof.Machine
end

