-- ==== Sys2Proof/Machine/StackTransferFlags.lean ====
section
/-! DEFINITION. Stack, transfer, flag and no-operation instructions (46_stack_transfer_flags.md, rules R120 to R137). -/

namespace Sys2Proof.Machine

/-- PHA: push A (rule R120). -/
def opPha (s : State) : State := push s.regs.a s

/-- 0x48, implied (rule R75). -/
def execPha (s : State) : Result := .next (opPha s)

/-- PHP: push P with bits 4 and 5 set; the live flags stay (rule R121). -/
def opPhp (s : State) : State := push (packPush s.regs.p) s

/-- 0x08, implied (rule R75). -/
def execPhp (s : State) : Result := .next (opPhp s)

/-- PLA: pull a byte into A, Z and N from it (rule R122). -/
def opPla (s : State) : State :=
  let r := pull s
  (r.2.setA r.1).setP (setZN r.1 r.2.regs.p)

/-- 0x68, implied (rule R75). -/
def execPla (s : State) : Result := .next (opPla s)

/-- PLP: pull a byte into P, B becoming 0 (rule R123). -/
def opPlp (s : State) : State :=
  let r := pull s
  r.2.setP (unpackPull r.1)

/-- 0x28, implied (rule R75). -/
def execPlp (s : State) : Result := .next (opPlp s)

/-- TAX: copy A to X, Z and N from it (rule R124). -/
def opTax (s : State) : State := (s.setX s.regs.a).setP (setZN s.regs.a s.regs.p)

/-- 0xAA, implied (rule R75). -/
def execTax (s : State) : Result := .next (opTax s)

/-- TAY: copy A to Y, Z and N from it (rule R125). -/
def opTay (s : State) : State := (s.setY s.regs.a).setP (setZN s.regs.a s.regs.p)

/-- 0xA8, implied (rule R75). -/
def execTay (s : State) : Result := .next (opTay s)

/-- TXA: copy X to A, Z and N from it (rule R126). -/
def opTxa (s : State) : State := (s.setA s.regs.x).setP (setZN s.regs.x s.regs.p)

/-- 0x8A, implied (rule R75). -/
def execTxa (s : State) : Result := .next (opTxa s)

/-- TYA: copy Y to A, Z and N from it (rule R127). -/
def opTya (s : State) : State := (s.setA s.regs.y).setP (setZN s.regs.y s.regs.p)

/-- 0x98, implied (rule R75). -/
def execTya (s : State) : Result := .next (opTya s)

/-- TSX: copy SP to X, Z and N from it (rule R128). -/
def opTsx (s : State) : State := (s.setX s.regs.sp).setP (setZN s.regs.sp s.regs.p)

/-- 0xBA, implied (rule R75). -/
def execTsx (s : State) : Result := .next (opTsx s)

/-- TXS: copy X to SP; no flag is written (rule R129). -/
def opTxs (s : State) : State := s.setSp s.regs.x

/-- 0x9A, implied (rule R75). -/
def execTxs (s : State) : Result := .next (opTxs s)

/-- CLC: `P.C <- 0` (rule R130). -/
def opClc (s : State) : State := s.setP { s.regs.p with c := false }

/-- 0x18, implied (rule R75). -/
def execClc (s : State) : Result := .next (opClc s)

/-- SEC: `P.C <- 1` (rule R131). -/
def opSec (s : State) : State := s.setP { s.regs.p with c := true }

/-- 0x38, implied (rule R75). -/
def execSec (s : State) : Result := .next (opSec s)

/-- CLI: `P.I <- 0` (rule R132). -/
def opCli (s : State) : State := s.setP { s.regs.p with i := false }

/-- 0x58, implied (rule R75). -/
def execCli (s : State) : Result := .next (opCli s)

/-- SEI: `P.I <- 1` (rule R133). -/
def opSei (s : State) : State := s.setP { s.regs.p with i := true }

/-- 0x78, implied (rule R75). -/
def execSei (s : State) : Result := .next (opSei s)

/-- CLD: `P.D <- 0` (rule R134). -/
def opCld (s : State) : State := s.setP { s.regs.p with d := false }

/-- 0xD8, implied (rule R75). -/
def execCld (s : State) : Result := .next (opCld s)

/-- SED: `P.D <- 1` (rule R135). -/
def opSed (s : State) : State := s.setP { s.regs.p with d := true }

/-- 0xF8, implied (rule R75). -/
def execSed (s : State) : Result := .next (opSed s)

/-- CLV: `P.V <- 0` (rule R136). -/
def opClv (s : State) : State := s.setP { s.regs.p with v := false }

/-- 0xB8, implied (rule R75). -/
def execClv (s : State) : Result := .next (opClv s)

/-! The documented no-operation: nothing but the fetch (rule R137). -/

/-- 0xEA, implied (rule R75). -/
def execNop (s : State) : Result := .next s

end Sys2Proof.Machine
end

