-- ==== Sys2Proof/Machine/Undocumented.lean ====
section
/-! DEFINITION. The admitted undocumented opcodes (47_undocumented.md, rules R138 to R151). -/

namespace Sys2Proof.Machine

/-- A memory-mode NOP: one load of the effective address, discarded (rule R139); without NOP_MEMORY_LOAD only the
address is resolved (decision D8).  The absolute,X forms load whatever that parameter is, as the source says of them. -/
def opNopMemory (m : Mode) (s : State) : State :=
  if Params.nopMemoryLoad then (readOp m s).2 else (resolve m s).2

/-- 0x04, zp (rule R60). -/
def execNopZp04 (z : Byte) (s : State) : Result := .next (opNopMemory (.zp z) s)

/-- 0x0C, abs (rule R63). -/
def execNopAbs0C (w : Addr) (s : State) : Result := .next (opNopMemory (.abs w) s)

/-- 0x14, zp,X (rule R61). -/
def execNopZpX14 (z : Byte) (s : State) : Result := .next (opNopMemory (.zpX z) s)

/-- 0x1A, implied (rule R75). -/
def execNop1A (s : State) : Result := .next s

/-- 0x1C, abs,X (rule R64). -/
def execNopAbsX1C (w : Addr) (s : State) : Result := .next (readOp (.absXRead w) s).2

/-- 0x34, zp,X (rule R61). -/
def execNopZpX34 (z : Byte) (s : State) : Result := .next (opNopMemory (.zpX z) s)

/-- 0x3A, implied (rule R75). -/
def execNop3A (s : State) : Result := .next s

/-- 0x3C, abs,X (rule R64). -/
def execNopAbsX3C (w : Addr) (s : State) : Result := .next (readOp (.absXRead w) s).2

/-- 0x44, zp (rule R60). -/
def execNopZp44 (z : Byte) (s : State) : Result := .next (opNopMemory (.zp z) s)

/-- 0x54, zp,X (rule R61). -/
def execNopZpX54 (z : Byte) (s : State) : Result := .next (opNopMemory (.zpX z) s)

/-- 0x5A, implied (rule R75). -/
def execNop5A (s : State) : Result := .next s

/-- 0x5C, abs,X (rule R64). -/
def execNopAbsX5C (w : Addr) (s : State) : Result := .next (readOp (.absXRead w) s).2

/-- 0x64, zp (rule R60). -/
def execNopZp64 (z : Byte) (s : State) : Result := .next (opNopMemory (.zp z) s)

/-- 0x74, zp,X (rule R61). -/
def execNopZpX74 (z : Byte) (s : State) : Result := .next (opNopMemory (.zpX z) s)

/-- 0x7A, implied (rule R75). -/
def execNop7A (s : State) : Result := .next s

/-- 0x7C, abs,X (rule R64). -/
def execNopAbsX7C (w : Addr) (s : State) : Result := .next (readOp (.absXRead w) s).2

/-- 0x80, #i8 (rule R59). -/
def execNopImm80 (m : Byte) (s : State) : Result := .next (readOp (.imm m) s).2

/-- 0x82, #i8 (rule R59). -/
def execNopImm82 (m : Byte) (s : State) : Result := .next (readOp (.imm m) s).2

/-- 0x89, #i8 (rule R59). -/
def execNopImm89 (m : Byte) (s : State) : Result := .next (readOp (.imm m) s).2

/-- 0xC2, #i8 (rule R59). -/
def execNopImmC2 (m : Byte) (s : State) : Result := .next (readOp (.imm m) s).2

/-- 0xD4, zp,X (rule R61). -/
def execNopZpXD4 (z : Byte) (s : State) : Result := .next (opNopMemory (.zpX z) s)

/-- 0xDA, implied (rule R75). -/
def execNopDA (s : State) : Result := .next s

/-- 0xDC, abs,X (rule R64). -/
def execNopAbsXDC (w : Addr) (s : State) : Result := .next (readOp (.absXRead w) s).2

/-- 0xE2, #i8 (rule R59). -/
def execNopImmE2 (m : Byte) (s : State) : Result := .next (readOp (.imm m) s).2

/-- 0xF4, zp,X (rule R61). -/
def execNopZpXF4 (z : Byte) (s : State) : Result := .next (opNopMemory (.zpX z) s)

/-- 0xFA, implied (rule R75). -/
def execNopFA (s : State) : Result := .next s

/-- 0xFC, abs,X (rule R64). -/
def execNopAbsXFC (w : Addr) (s : State) : Result := .next (readOp (.absXRead w) s).2

/-- LAX: load one byte into A and X, Z and N from it (rule R140). -/
def opLax (m : Mode) (s : State) : State :=
  let r := readOp m s
  ((r.2.setA r.1).setX r.1).setP (setZN r.1 r.2.regs.p)

/-- 0xA3, (zp,X) (rule R69). -/
def execLaxIndX (z : Byte) (s : State) : Result := .next (opLax (.indX z) s)

/-- 0xA7, zp (rule R60). -/
def execLaxZp (z : Byte) (s : State) : Result := .next (opLax (.zp z) s)

/-- 0xAF, abs (rule R63). -/
def execLaxAbs (w : Addr) (s : State) : Result := .next (opLax (.abs w) s)

/-- 0xB3, (zp),Y (rule R70). -/
def execLaxIndY (z : Byte) (s : State) : Result := .next (opLax (.indYRead z) s)

/-- 0xB7, zp,Y (rule R62). -/
def execLaxZpY (z : Byte) (s : State) : Result := .next (opLax (.zpY z) s)

/-- 0xBF, abs,Y (rule R66). -/
def execLaxAbsY (w : Addr) (s : State) : Result := .next (opLax (.absYRead w) s)

/-- SAX: store `A & X`; no flag is written (rule R141). -/
def opSax (m : Mode) (s : State) : State := writeOp m (s.regs.a &&& s.regs.x) s

/-- 0x83, (zp,X) (rule R69). -/
def execSaxIndX (z : Byte) (s : State) : Result := .next (opSax (.indX z) s)

/-- 0x87, zp (rule R60). -/
def execSaxZp (z : Byte) (s : State) : Result := .next (opSax (.zp z) s)

/-- 0x8F, abs (rule R63). -/
def execSaxAbs (w : Addr) (s : State) : Result := .next (opSax (.abs w) s)

/-- 0x97, zp,Y (rule R62). -/
def execSaxZpY (z : Byte) (s : State) : Result := .next (opSax (.zpY z) s)

/-- Opcode 0xEB: subtract with carry of an immediate byte (rule R142). -/
def opSbcUndocumented (m : Mode) (s : State) : State :=
  let r := readOp m s
  let q := subtractWithCarry r.2.regs.a r.1 r.2.regs.p
  (r.2.setA q.1).setP q.2

/-- 0xEB, #i8 (rule R59). -/
def execSbcImmEB (m : Byte) (s : State) : Result := .next (opSbcUndocumented (.imm m) s)

/-- SLO: ASL of a memory byte, then ORA with the result (rules R143 and R138). -/
def opSlo (m : Mode) (s : State) : State :=
  let r := rmwOp m shiftL s
  let v := r.2.regs.a ||| r.1
  (r.2.setA v).setP (setZN v r.2.regs.p)

/-- 0x03, (zp,X) (rule R69). -/
def execSloIndX (z : Byte) (s : State) : Result := .next (opSlo (.indX z) s)

/-- 0x07, zp (rule R60). -/
def execSloZp (z : Byte) (s : State) : Result := .next (opSlo (.zp z) s)

/-- 0x0F, abs (rule R63). -/
def execSloAbs (w : Addr) (s : State) : Result := .next (opSlo (.abs w) s)

/-- 0x13, (zp),Y (rule R71). -/
def execSloIndY (z : Byte) (s : State) : Result := .next (opSlo (.indYWrite z) s)

/-- 0x17, zp,X (rule R61). -/
def execSloZpX (z : Byte) (s : State) : Result := .next (opSlo (.zpX z) s)

/-- 0x1B, abs,Y (rule R67). -/
def execSloAbsY (w : Addr) (s : State) : Result := .next (opSlo (.absYWrite w) s)

/-- 0x1F, abs,X (rule R65). -/
def execSloAbsX (w : Addr) (s : State) : Result := .next (opSlo (.absXWrite w) s)

/-- RLA: ROL of a memory byte, then AND with the result (rules R144 and R138). -/
def opRla (m : Mode) (s : State) : State :=
  let r := rmwOp m rotL s
  let v := r.2.regs.a &&& r.1
  (r.2.setA v).setP (setZN v r.2.regs.p)

/-- 0x23, (zp,X) (rule R69). -/
def execRlaIndX (z : Byte) (s : State) : Result := .next (opRla (.indX z) s)

/-- 0x27, zp (rule R60). -/
def execRlaZp (z : Byte) (s : State) : Result := .next (opRla (.zp z) s)

/-- 0x2F, abs (rule R63). -/
def execRlaAbs (w : Addr) (s : State) : Result := .next (opRla (.abs w) s)

/-- 0x33, (zp),Y (rule R71). -/
def execRlaIndY (z : Byte) (s : State) : Result := .next (opRla (.indYWrite z) s)

/-- 0x37, zp,X (rule R61). -/
def execRlaZpX (z : Byte) (s : State) : Result := .next (opRla (.zpX z) s)

/-- 0x3B, abs,Y (rule R67). -/
def execRlaAbsY (w : Addr) (s : State) : Result := .next (opRla (.absYWrite w) s)

/-- 0x3F, abs,X (rule R65). -/
def execRlaAbsX (w : Addr) (s : State) : Result := .next (opRla (.absXWrite w) s)

/-- SRE: LSR of a memory byte, then EOR with the result (rules R145 and R138). -/
def opSre (m : Mode) (s : State) : State :=
  let r := rmwOp m shiftR s
  let v := r.2.regs.a ^^^ r.1
  (r.2.setA v).setP (setZN v r.2.regs.p)

/-- 0x43, (zp,X) (rule R69). -/
def execSreIndX (z : Byte) (s : State) : Result := .next (opSre (.indX z) s)

/-- 0x47, zp (rule R60). -/
def execSreZp (z : Byte) (s : State) : Result := .next (opSre (.zp z) s)

/-- 0x4F, abs (rule R63). -/
def execSreAbs (w : Addr) (s : State) : Result := .next (opSre (.abs w) s)

/-- 0x53, (zp),Y (rule R71). -/
def execSreIndY (z : Byte) (s : State) : Result := .next (opSre (.indYWrite z) s)

/-- 0x57, zp,X (rule R61). -/
def execSreZpX (z : Byte) (s : State) : Result := .next (opSre (.zpX z) s)

/-- 0x5B, abs,Y (rule R67). -/
def execSreAbsY (w : Addr) (s : State) : Result := .next (opSre (.absYWrite w) s)

/-- 0x5F, abs,X (rule R65). -/
def execSreAbsX (w : Addr) (s : State) : Result := .next (opSre (.absXWrite w) s)

/-- RRA: ROR of a memory byte, then ADC of the result with the carry the rotate left (rules R146 and R138). -/
def opRra (m : Mode) (s : State) : State :=
  let r := rmwOp m rotR s
  let q := addWithCarry r.2.regs.a r.1 r.2.regs.p
  (r.2.setA q.1).setP q.2

/-- 0x63, (zp,X) (rule R69). -/
def execRraIndX (z : Byte) (s : State) : Result := .next (opRra (.indX z) s)

/-- 0x67, zp (rule R60). -/
def execRraZp (z : Byte) (s : State) : Result := .next (opRra (.zp z) s)

/-- 0x6F, abs (rule R63). -/
def execRraAbs (w : Addr) (s : State) : Result := .next (opRra (.abs w) s)

/-- 0x73, (zp),Y (rule R71). -/
def execRraIndY (z : Byte) (s : State) : Result := .next (opRra (.indYWrite z) s)

/-- 0x77, zp,X (rule R61). -/
def execRraZpX (z : Byte) (s : State) : Result := .next (opRra (.zpX z) s)

/-- 0x7B, abs,Y (rule R67). -/
def execRraAbsY (w : Addr) (s : State) : Result := .next (opRra (.absYWrite w) s)

/-- 0x7F, abs,X (rule R65). -/
def execRraAbsX (w : Addr) (s : State) : Result := .next (opRra (.absXWrite w) s)

/-- DCP: DEC of a memory byte, then CMP of A with the result (rules R147 and R138). -/
def opDcp (m : Mode) (s : State) : State :=
  let r := rmwOp m decByte s
  r.2.setP (compareFlags r.2.regs.a r.1 r.2.regs.p)

/-- 0xC3, (zp,X) (rule R69). -/
def execDcpIndX (z : Byte) (s : State) : Result := .next (opDcp (.indX z) s)

/-- 0xC7, zp (rule R60). -/
def execDcpZp (z : Byte) (s : State) : Result := .next (opDcp (.zp z) s)

/-- 0xCF, abs (rule R63). -/
def execDcpAbs (w : Addr) (s : State) : Result := .next (opDcp (.abs w) s)

/-- 0xD3, (zp),Y (rule R71). -/
def execDcpIndY (z : Byte) (s : State) : Result := .next (opDcp (.indYWrite z) s)

/-- 0xD7, zp,X (rule R61). -/
def execDcpZpX (z : Byte) (s : State) : Result := .next (opDcp (.zpX z) s)

/-- 0xDB, abs,Y (rule R67). -/
def execDcpAbsY (w : Addr) (s : State) : Result := .next (opDcp (.absYWrite w) s)

/-- 0xDF, abs,X (rule R65). -/
def execDcpAbsX (w : Addr) (s : State) : Result := .next (opDcp (.absXWrite w) s)

/-- ISB: INC of a memory byte, then SBC of the result (rules R148 and R138). -/
def opIsb (m : Mode) (s : State) : State :=
  let r := rmwOp m incByte s
  let q := subtractWithCarry r.2.regs.a r.1 r.2.regs.p
  (r.2.setA q.1).setP q.2

/-- 0xE3, (zp,X) (rule R69). -/
def execIsbIndX (z : Byte) (s : State) : Result := .next (opIsb (.indX z) s)

/-- 0xE7, zp (rule R60). -/
def execIsbZp (z : Byte) (s : State) : Result := .next (opIsb (.zp z) s)

/-- 0xEF, abs (rule R63). -/
def execIsbAbs (w : Addr) (s : State) : Result := .next (opIsb (.abs w) s)

/-- 0xF3, (zp),Y (rule R71). -/
def execIsbIndY (z : Byte) (s : State) : Result := .next (opIsb (.indYWrite z) s)

/-- 0xF7, zp,X (rule R61). -/
def execIsbZpX (z : Byte) (s : State) : Result := .next (opIsb (.zpX z) s)

/-- 0xFB, abs,Y (rule R67). -/
def execIsbAbsY (w : Addr) (s : State) : Result := .next (opIsb (.absYWrite w) s)

/-- 0xFF, abs,X (rule R65). -/
def execIsbAbsX (w : Addr) (s : State) : Result := .next (opIsb (.absXWrite w) s)

/-- ANC: AND with an immediate byte, then C receives bit 7 of the result (rule R149). -/
def opAnc (m : Mode) (s : State) : State :=
  let r := readOp m s
  let v := r.2.regs.a &&& r.1
  (r.2.setA v).setP { setZN v r.2.regs.p with c := v.getLsbD 7 }

/-- 0x0B, #i8 (rule R59). -/
def execAncImm0B (m : Byte) (s : State) : Result := .next (opAnc (.imm m) s)

/-- 0x2B, #i8 (rule R59). -/
def execAncImm2B (m : Byte) (s : State) : Result := .next (opAnc (.imm m) s)

/-- The value SHY and SHX store: the register AND the base's high byte plus one (rules R150 and R151). -/
def shValue (reg : Byte) (base : Addr) : Byte := reg &&& (hi base + 1)

/-- The address SHY and SHX store to: on a page cross the value replaces the high byte (rules R150 and R151). -/
def shAddr (v : Byte) (base ea : Addr) : Addr := if hi ea = hi base then ea else word v (lo ea)

/-- SHY (SYA): store `Y & (hi(base) + 1)` at base + X, no penalty (rule R150). -/
def opShy (w : Addr) (s : State) : State :=
  let r := resolve (.absXWrite w) s
  let v := shValue r.2.regs.y w
  memWrite (shAddr v w r.1) v r.2

/-- 0x9C, abs,X (rule R65). -/
def execShyAbsX (w : Addr) (s : State) : Result := .next (opShy w s)

/-- SHX (SXA): store `X & (hi(base) + 1)` at base + Y, no penalty (rule R151). -/
def opShx (w : Addr) (s : State) : State :=
  let r := resolve (.absYWrite w) s
  let v := shValue r.2.regs.x w
  memWrite (shAddr v w r.1) v r.2

/-- 0x9E, abs,Y (rule R67). -/
def execShxAbsY (w : Addr) (s : State) : Result := .next (opShx w s)

end Sys2Proof.Machine
end

