-- ==== Sys2Proof/Machine/Cycles.lean ====
section
/-! DEFINITION. The base cycle table (40_dispatch_and_cycles.md rule R53, decision D28), copied from the rule's
grid row by row. -/

namespace Sys2Proof.Machine

/-- The grid of rule R53: row = high nibble, column = low nibble; 0 stands where the grid has `!`, an unsupported
opcode, which has no cost. -/
def cycleRow (h : Nat) : List Nat :=
  match h with
  | 0 => [7, 6, 0, 8, 3, 3, 5, 5, 3, 2, 2, 2, 4, 4, 6, 6]
  | 1 => [2, 5, 0, 8, 4, 4, 6, 6, 2, 4, 2, 7, 4, 4, 7, 7]
  | 2 => [6, 6, 0, 8, 3, 3, 5, 5, 4, 2, 2, 2, 4, 4, 6, 6]
  | 3 => [2, 5, 0, 8, 4, 4, 6, 6, 2, 4, 2, 7, 4, 4, 7, 7]
  | 4 => [6, 6, 0, 8, 3, 3, 5, 5, 3, 2, 2, 0, 3, 4, 6, 6]
  | 5 => [2, 5, 0, 8, 4, 4, 6, 6, 2, 4, 2, 7, 4, 4, 7, 7]
  | 6 => [6, 6, 0, 8, 3, 3, 5, 5, 4, 2, 2, 0, 5, 4, 6, 6]
  | 7 => [2, 5, 0, 8, 4, 4, 6, 6, 2, 4, 2, 7, 4, 4, 7, 7]
  | 8 => [2, 6, 2, 6, 3, 3, 3, 3, 2, 2, 2, 0, 4, 4, 4, 4]
  | 9 => [2, 6, 0, 0, 4, 4, 4, 4, 2, 5, 2, 0, 5, 5, 5, 0]
  | 10 => [2, 6, 2, 6, 3, 3, 3, 3, 2, 2, 2, 0, 4, 4, 4, 4]
  | 11 => [2, 5, 0, 5, 4, 4, 4, 4, 2, 4, 2, 0, 4, 4, 4, 4]
  | 12 => [2, 6, 2, 8, 3, 3, 5, 5, 2, 2, 2, 0, 4, 4, 6, 6]
  | 13 => [2, 5, 0, 8, 4, 4, 6, 6, 2, 4, 2, 7, 4, 4, 7, 7]
  | 14 => [2, 6, 2, 8, 3, 3, 5, 5, 2, 2, 2, 2, 4, 4, 6, 6]
  | _ => [2, 5, 0, 8, 4, 4, 6, 6, 2, 4, 2, 7, 4, 4, 7, 7]

/-- `BASE_CYCLES[op]` (rule R53). -/
def baseCycles (op : Byte) : Nat :=
  (cycleRow (op.toNat / 16)).getD (op.toNat % 16) 0

end Sys2Proof.Machine
end

