-- ==== Sys2Proof/Machine/Fetch.lean ====
section
/-! DEFINITION. The parts of `step()` around `Execute` (40_dispatch_and_cycles.md rules R50 and R51): the opcode
fetch, the test for an unsupported opcode, the base cost, the operand fetch and the end of the step. -/

namespace Sys2Proof.Machine

/-- `cyc <- 0`, the start of a step (rule R50). -/
def beginStep (s : State) : State := s.setCyc 0

/-- One byte of the instruction stream: `MemRead(PC, 1)`, then `PC <- PC +16 1` (rules R43 and R51). -/
def fetchByte (s : State) : Byte × State :=
  let r := memRead s.regs.pc s
  (r.1, r.2.setPc (r.2.regs.pc + 1))

/-- The opcode decodes as unsupported: it is one of rule R47's, or an undocumented opcode outside
ADMITTED_UNDOCUMENTED, or 0x9C or 0x9E where SHXY_FORMULA is `unsupported` (rule R44, decisions D7 and D29). -/
def unsupported (op : Byte) : Bool :=
  neverAdmitted.contains op
    || (stableUndocumented.contains op && !Params.admittedUndocumented.contains op)
    || (Params.shxyFormula == .unsupported && (op == 0x9C#8 || op == 0x9E#8))

/-- `cyc <- cyc + BASE_CYCLES[op]`, before the instruction's own rule runs (rule R51, decision D27). -/
def chargeBase (op : Byte) (s : State) : State := s.addCyc (baseCycles op)

/-- The operand bytes that the opcode's mode has, first to last, and the instruction they complete (rules R42, R43). -/
def fetchOperands (op : Byte) (s : State) : Instr × State :=
  match lengthOf op with
  | 1 => (decodeOp op 0x00#8 0x00#8, s)
  | 2 =>
    let b := fetchByte s
    (decodeOp op b.1 0x00#8, b.2)
  | _ =>
    let b := fetchByte s
    let c := fetchByte b.2
    (decodeOp op b.1 c.1, c.2)

/-- The end of a completed step: `total_cycles` grows by the step's count and `cyc` is zeroed (rule R50,
decision D12).  A fatal result passes unchanged (rule R153). -/
def endStep : Result → Result
  | .next s => .next ((s.setTotalCycles (s.totalCycles + s.cyc)).setCyc 0)
  | .fault r => .fault r
  | .refused r => .refused r

/-- Store bytes in memory from an address upward, with no bus transaction: an aid for placing an instruction. -/
def placeBytes : Addr → List Byte → Memory → Memory
  | _, [], m => m
  | a, b :: bs, m => placeBytes (a + 1) bs (m.write a.toNat b)

end Sys2Proof.Machine
end

