-- ==== Sys2Proof/Machine/Step.lean ====
section
/-! DEFINITION. One `step()` (40_dispatch_and_cycles.md rule R50), and the placing of an instruction where the next
step fetches. -/

namespace Sys2Proof.Machine

/-- `step()` (rule R50): a faulted core returns its record again (decision D18); otherwise the opcode is fetched, an
unsupported one is fatal, and any other instruction is charged, fetched and executed.  The count that
`Ok(n)` returns is the growth of `totalCycles`. -/
def step (s : State) : Host.Outcome State Fault Refusal :=
  match s.fault with
  | some r => .fault (.unsupportedOpcode r)
  | none =>
    let f := fetchByte (beginStep s)
    if unsupported f.1 then raiseUnsupported f.1 f.2
    else
      let g := fetchOperands f.1 (chargeBase f.1 f.2)
      endStep (exec g.1 g.2)

/-- `s` with the instruction whose bits are `w` stored at PC (three bytes, the ones from `nbits` up zero), the bus
answering from memory and the core not faulted, so that the next step fetches and runs exactly it (log entry 8). -/
def State.withFetchWord (s : State) (nbits w : Nat) : State :=
  (s.setFault none).setBus
    { s.bus with mem := placeBytes s.regs.pc (tableBytes nbits w) s.bus.mem, answers := [] }

end Sys2Proof.Machine
end

