-- ==== Sys2Proof/Machine/HostCalls.lean ====
section
/-! DEFINITION. The host's operations on the core (00_scope.md rule R3): `nmi()`, `irq()`, `reset()`, `restore(s)`, and
the six together as calls with their replies, so that a run is a list of calls (70_reset_and_hazards.md). -/

namespace Sys2Proof.Machine

/-- The cycles of an interrupt entry go to `total_cycles` and are returned (rules R157 and R158, decision D13). -/
def chargeEntry (s : State) : State := s.setTotalCycles (s.totalCycles + Params.interruptEntryCycles)

/-- `nmi()`: the returned count and the state (rule R157). -/
def nmi (s : State) : Nat × State :=
  match s.fault with
  | some _ => (0, s)
  | none =>
    (Params.interruptEntryCycles,
      chargeEntry (enterInterrupt Config.nmiVector (packP s.regs.p) Params.nmiSetsI s))

/-- The IRQ entry of a style: under `sameAsBrk` PC advances by one and bit 4 of the pushed byte is 1; under
`hardware` neither (rule R158, decision D14). -/
def irqEntry (style : Config.IrqEntryStyle) (s : State) : State :=
  match style with
  | .sameAsBrk =>
    let s1 := s.setPc (s.regs.pc + 1)
    enterInterrupt Config.irqVector (packPush s1.regs.p) true s1
  | .hardware => enterInterrupt Config.irqVector (packP s.regs.p &&& 0xEF#8) true s

/-- `irq()`: the returned count and the state; nothing happens while I masks it (rule R158, decision D15). -/
def irq (s : State) : Nat × State :=
  match s.fault with
  | some _ => (0, s)
  | none =>
    if Params.irqMaskedInCore && s.regs.p.i then (0, s)
    else (Params.interruptEntryCycles, chargeEntry (irqEntry Params.irqEntryStyle s))

/-- `reset_to(address)`: the power-up values with a given PC; the bus is not touched (rule R169, decision D21). -/
def resetTo (a : Addr) (s : State) : State :=
  { State.reset with regs := { State.reset.regs with pc := a }, bus := s.bus }

/-- `reset()`: the power-up values, then PC from the reset vector (rule R169). -/
def hostReset (s : State) : State :=
  let w := loadWord Config.resetVector (resetTo 0x0000#16 s)
  w.2.setPc w.1

/-- `restore(s)`: the register record written back; counters, fault and bus stay (rule R172). -/
def restore (r : Snapshot) (s : State) : State :=
  s.setRegs { a := r.a, x := r.x, y := r.y, sp := r.sp, pc := r.pc, p := unpackRestore r.p }

/-- The state a fatal step leaves: after the opcode fetch, faulted, nothing charged; a core that was faulted
already is unchanged (rules R50 and R153, decisions D18 and D34). -/
def afterFatal (r : FaultRecord) (s : State) : State :=
  match s.fault with
  | some _ => s
  | none => ((fetchByte (beginStep s)).2.setFault (some r)).setCyc 0

/-- A host call (rule R3). -/
inductive HostCall where
  | step
  | nmi
  | irq
  | reset
  | snapshot
  | restore (r : Snapshot)
  deriving DecidableEq, Repr

/-- What a host call returns (rule R3). -/
inductive HostReply where
  /-- `Ok(n)` of a step -/
  | ok (n : Nat)
  /-- `Fatal(UnsupportedOpcode{opcode, snapshot})` of a step -/
  | fatal (r : FaultRecord)
  /-- the model has no meaning for the instruction; no instruction of this model gives it -/
  | refused (r : Refusal)
  /-- the cycles `nmi()` or `irq()` charged -/
  | cycles (n : Nat)
  /-- the record `snapshot()` reads -/
  | record (r : Snapshot)
  /-- nothing -/
  | done
  deriving DecidableEq, Repr

/-- `step()` as a host call: the reply and the state afterwards (rules R50 and R153). -/
def stepCall (s : State) : HostReply × State :=
  match step s with
  | .next t => (.ok (t.totalCycles - s.totalCycles), t)
  | .fault (.unsupportedOpcode r) => (.fatal r, afterFatal r s)
  | .refused r => (.refused r, s)

/-- One host call (rule R3). -/
def hostCall (c : HostCall) (s : State) : HostReply × State :=
  match c with
  | .step => stepCall s
  | .nmi => (.cycles (Machine.nmi s).1, (Machine.nmi s).2)
  | .irq => (.cycles (Machine.irq s).1, (Machine.irq s).2)
  | .reset => (.done, hostReset s)
  | .snapshot => (.record (Machine.snapshot s), s)
  | .restore r => (.done, Machine.restore r s)

/-- A run: host calls one after another, with their replies in order (rule R174). -/
def hostRun : List HostCall → State → List HostReply × State
  | [], s => ([], s)
  | c :: cs, s =>
    let r := hostCall c s
    let rest := hostRun cs r.2
    (r.1 :: rest.1, rest.2)

end Sys2Proof.Machine
end

