-- ==== Sys2Proof/Safety.lean ====
section
/-! DEFINITION. What counts as a good state between host operations, in the terms the statements use. -/

namespace Sys2Proof.Machine

/-- Between host operations: memory keeps its canonical form and the accumulator `cyc` is 0 (rules R23 and R50). -/
def State.Inv (s : State) : Prop := s.bus.mem.wf = true ∧ s.cyc = 0

/-- The live B is clear, as reset leaves it (rule R18). -/
def State.BreakClear (s : State) : Prop := s.regs.p.b = false

/-- The bus transactions of `s` are among those of `t`, as its oldest: nothing made is forgotten (rule R174). -/
def ExtendsTrace (s t : State) : Prop := ∃ new, t.bus.trace = new ++ s.bus.trace

/-- The mnemonics of the opcode table (spec/opcode_table.json). -/
inductive Mnemonic where
  | brk | ora | jam | slo | nop | asl | php | anc | bpl | clc | jsr | and | rla | bit | rol | plp | bmi
  | sec | rti | eor | sre | lsr | pha | alr | jmp | bvc | cli | rts | adc | rra | ror | pla | arr | bvs
  | sei | sta | sax | sty | stx | dey | txa | xaa | bcc | ahx | tya | txs | tas | shy | shx | ldy | lda
  | ldx | lax | tay | tax | lxa | bcs | clv | tsx | las | cpy | cmp | dcp | dec | iny | dex | axs | bne
  | cld | cpx | sbc | isb | inc | inx | beq | sed
  deriving DecidableEq, Repr

/-- The mnemonic of an instruction's row. -/
def mnemonic : Instr → Mnemonic
  | .brk => .brk
  | .oraIndX _ | .oraZp _ | .oraImm _ | .oraAbs _ | .oraIndY _ | .oraZpX _ | .oraAbsY _ | .oraAbsX _ => .ora
  | .jam02 | .jam12 | .jam22 | .jam32 | .jam42 | .jam52 | .jam62 | .jam72 | .jam92 | .jamB2 | .jamD2
  | .jamF2 => .jam
  | .sloIndX _ | .sloZp _ | .sloAbs _ | .sloIndY _ | .sloZpX _ | .sloAbsY _ | .sloAbsX _ => .slo
  | .nopZp04 _ | .nopAbs0C _ | .nopZpX14 _ | .nop1A | .nopAbsX1C _ | .nopZpX34 _ | .nop3A
  | .nopAbsX3C _ | .nopZp44 _ | .nopZpX54 _ | .nop5A | .nopAbsX5C _ | .nopZp64 _ | .nopZpX74 _ | .nop7A
  | .nopAbsX7C _ | .nopImm80 _ | .nopImm82 _ | .nopImm89 _ | .nopImmC2 _ | .nopZpXD4 _ | .nopDA
  | .nopAbsXDC _ | .nopImmE2 _ | .nop | .nopZpXF4 _ | .nopFA | .nopAbsXFC _ => .nop
  | .aslZp _ | .aslA | .aslAbs _ | .aslZpX _ | .aslAbsX _ => .asl
  | .php => .php
  | .ancImm0B _ | .ancImm2B _ => .anc
  | .bpl _ => .bpl
  | .clc => .clc
  | .jsr _ => .jsr
  | .andIndX _ | .andZp _ | .andImm _ | .andAbs _ | .andIndY _ | .andZpX _ | .andAbsY _ | .andAbsX _ => .and
  | .rlaIndX _ | .rlaZp _ | .rlaAbs _ | .rlaIndY _ | .rlaZpX _ | .rlaAbsY _ | .rlaAbsX _ => .rla
  | .bitZp _ | .bitAbs _ => .bit
  | .rolZp _ | .rolA | .rolAbs _ | .rolZpX _ | .rolAbsX _ => .rol
  | .plp => .plp
  | .bmi _ => .bmi
  | .sec => .sec
  | .rti => .rti
  | .eorIndX _ | .eorZp _ | .eorImm _ | .eorAbs _ | .eorIndY _ | .eorZpX _ | .eorAbsY _ | .eorAbsX _ => .eor
  | .sreIndX _ | .sreZp _ | .sreAbs _ | .sreIndY _ | .sreZpX _ | .sreAbsY _ | .sreAbsX _ => .sre
  | .lsrZp _ | .lsrA | .lsrAbs _ | .lsrZpX _ | .lsrAbsX _ => .lsr
  | .pha => .pha
  | .alr => .alr
  | .jmpAbs _ | .jmpInd _ => .jmp
  | .bvc _ => .bvc
  | .cli => .cli
  | .rts => .rts
  | .adcIndX _ | .adcZp _ | .adcImm _ | .adcAbs _ | .adcIndY _ | .adcZpX _ | .adcAbsY _ | .adcAbsX _ => .adc
  | .rraIndX _ | .rraZp _ | .rraAbs _ | .rraIndY _ | .rraZpX _ | .rraAbsY _ | .rraAbsX _ => .rra
  | .rorZp _ | .rorA | .rorAbs _ | .rorZpX _ | .rorAbsX _ => .ror
  | .pla => .pla
  | .arr => .arr
  | .bvs _ => .bvs
  | .sei => .sei
  | .staIndX _ | .staZp _ | .staAbs _ | .staIndY _ | .staZpX _ | .staAbsY _ | .staAbsX _ => .sta
  | .saxIndX _ | .saxZp _ | .saxAbs _ | .saxZpY _ => .sax
  | .styZp _ | .styAbs _ | .styZpX _ => .sty
  | .stxZp _ | .stxAbs _ | .stxZpY _ => .stx
  | .dey => .dey
  | .txa => .txa
  | .xaa => .xaa
  | .bcc _ => .bcc
  | .ahx93 | .ahx9F => .ahx
  | .tya => .tya
  | .txs => .txs
  | .tas => .tas
  | .shyAbsX _ => .shy
  | .shxAbsY _ => .shx
  | .ldyImm _ | .ldyZp _ | .ldyAbs _ | .ldyZpX _ | .ldyAbsX _ => .ldy
  | .ldaIndX _ | .ldaZp _ | .ldaImm _ | .ldaAbs _ | .ldaIndY _ | .ldaZpX _ | .ldaAbsY _ | .ldaAbsX _ => .lda
  | .ldxImm _ | .ldxZp _ | .ldxAbs _ | .ldxZpY _ | .ldxAbsY _ => .ldx
  | .laxIndX _ | .laxZp _ | .laxAbs _ | .laxIndY _ | .laxZpY _ | .laxAbsY _ => .lax
  | .tay => .tay
  | .tax => .tax
  | .lxa => .lxa
  | .bcs _ => .bcs
  | .clv => .clv
  | .tsx => .tsx
  | .las => .las
  | .cpyImm _ | .cpyZp _ | .cpyAbs _ => .cpy
  | .cmpIndX _ | .cmpZp _ | .cmpImm _ | .cmpAbs _ | .cmpIndY _ | .cmpZpX _ | .cmpAbsY _ | .cmpAbsX _ => .cmp
  | .dcpIndX _ | .dcpZp _ | .dcpAbs _ | .dcpIndY _ | .dcpZpX _ | .dcpAbsY _ | .dcpAbsX _ => .dcp
  | .decZp _ | .decAbs _ | .decZpX _ | .decAbsX _ => .dec
  | .iny => .iny
  | .dex => .dex
  | .axs => .axs
  | .bne _ => .bne
  | .cld => .cld
  | .cpxImm _ | .cpxZp _ | .cpxAbs _ => .cpx
  | .sbcIndX _ | .sbcZp _ | .sbcImm _ | .sbcImmEB _ | .sbcAbs _ | .sbcIndY _ | .sbcZpX _ | .sbcAbsY _
  | .sbcAbsX _ => .sbc
  | .isbIndX _ | .isbZp _ | .isbAbs _ | .isbIndY _ | .isbZpX _ | .isbAbsY _ | .isbAbsX _ => .isb
  | .incZp _ | .incAbs _ | .incZpX _ | .incAbsX _ => .inc
  | .inx => .inx
  | .beq _ => .beq
  | .sed => .sed

end Sys2Proof.Machine
end

