-- ==== Sys2Proof/WellFormed.lean ====
section
/-! DEFINITION. Which instructions the core admits (rules R44 to R47).  Operand bytes need no check: every
byte value is legal (rule R6). -/

namespace Sys2Proof

/-- The instruction is admitted: its opcode is one of the 151 documented opcodes (rule R45) or of the 84
admitted undocumented ones (rule R46).  The 21 opcodes of rule R47 are not. -/
def Instr.wellFormed : Instr → Bool
  | .jam02 | .jam12 | .jam22 | .jam32 | .jam42 | .alr | .jam52 | .jam62 | .arr | .jam72 | .xaa
  | .jam92 | .ahx93 | .tas | .ahx9F | .lxa | .jamB2 | .las | .axs | .jamD2 | .jamF2 => false
  | .brk | .oraIndX _ | .sloIndX _ | .nopZp04 _ | .oraZp _ | .aslZp _ | .sloZp _ | .php
  | .oraImm _ | .aslA | .ancImm0B _ | .nopAbs0C _ | .oraAbs _ | .aslAbs _ | .sloAbs _ => true
  | .bpl _ | .oraIndY _ | .sloIndY _ | .nopZpX14 _ | .oraZpX _ | .aslZpX _ | .sloZpX _ | .clc
  | .oraAbsY _ | .nop1A | .sloAbsY _ | .nopAbsX1C _ | .oraAbsX _ | .aslAbsX _ | .sloAbsX _ => true
  | .jsr _ | .andIndX _ | .rlaIndX _ | .bitZp _ | .andZp _ | .rolZp _ | .rlaZp _ | .plp
  | .andImm _ | .rolA | .ancImm2B _ | .bitAbs _ | .andAbs _ | .rolAbs _ | .rlaAbs _ => true
  | .bmi _ | .andIndY _ | .rlaIndY _ | .nopZpX34 _ | .andZpX _ | .rolZpX _ | .rlaZpX _ | .sec
  | .andAbsY _ | .nop3A | .rlaAbsY _ | .nopAbsX3C _ | .andAbsX _ | .rolAbsX _ | .rlaAbsX _ => true
  | .rti | .eorIndX _ | .sreIndX _ | .nopZp44 _ | .eorZp _ | .lsrZp _ | .sreZp _ | .pha
  | .eorImm _ | .lsrA | .jmpAbs _ | .eorAbs _ | .lsrAbs _ | .sreAbs _ => true
  | .bvc _ | .eorIndY _ | .sreIndY _ | .nopZpX54 _ | .eorZpX _ | .lsrZpX _ | .sreZpX _ | .cli
  | .eorAbsY _ | .nop5A | .sreAbsY _ | .nopAbsX5C _ | .eorAbsX _ | .lsrAbsX _ | .sreAbsX _ => true
  | .rts | .adcIndX _ | .rraIndX _ | .nopZp64 _ | .adcZp _ | .rorZp _ | .rraZp _ | .pla
  | .adcImm _ | .rorA | .jmpInd _ | .adcAbs _ | .rorAbs _ | .rraAbs _ => true
  | .bvs _ | .adcIndY _ | .rraIndY _ | .nopZpX74 _ | .adcZpX _ | .rorZpX _ | .rraZpX _ | .sei
  | .adcAbsY _ | .nop7A | .rraAbsY _ | .nopAbsX7C _ | .adcAbsX _ | .rorAbsX _ | .rraAbsX _ => true
  | .nopImm80 _ | .staIndX _ | .nopImm82 _ | .saxIndX _ | .styZp _ | .staZp _ | .stxZp _
  | .saxZp _ | .dey | .nopImm89 _ | .txa | .styAbs _ | .staAbs _ | .stxAbs _ | .saxAbs _ => true
  | .bcc _ | .staIndY _ | .styZpX _ | .staZpX _ | .stxZpY _ | .saxZpY _ | .tya | .staAbsY _
  | .txs | .shyAbsX _ | .staAbsX _ | .shxAbsY _ => true
  | .ldyImm _ | .ldaIndX _ | .ldxImm _ | .laxIndX _ | .ldyZp _ | .ldaZp _ | .ldxZp _ | .laxZp _
  | .tay | .ldaImm _ | .tax | .ldyAbs _ | .ldaAbs _ | .ldxAbs _ | .laxAbs _ => true
  | .bcs _ | .ldaIndY _ | .laxIndY _ | .ldyZpX _ | .ldaZpX _ | .ldxZpY _ | .laxZpY _ | .clv
  | .ldaAbsY _ | .tsx | .ldyAbsX _ | .ldaAbsX _ | .ldxAbsY _ | .laxAbsY _ => true
  | .cpyImm _ | .cmpIndX _ | .nopImmC2 _ | .dcpIndX _ | .cpyZp _ | .cmpZp _ | .decZp _ | .dcpZp _
  | .iny | .cmpImm _ | .dex | .cpyAbs _ | .cmpAbs _ | .decAbs _ | .dcpAbs _ => true
  | .bne _ | .cmpIndY _ | .dcpIndY _ | .nopZpXD4 _ | .cmpZpX _ | .decZpX _ | .dcpZpX _ | .cld
  | .cmpAbsY _ | .nopDA | .dcpAbsY _ | .nopAbsXDC _ | .cmpAbsX _ | .decAbsX _ | .dcpAbsX _ => true
  | .cpxImm _ | .sbcIndX _ | .nopImmE2 _ | .isbIndX _ | .cpxZp _ | .sbcZp _ | .incZp _ | .isbZp _
  | .inx | .sbcImm _ | .nop | .sbcImmEB _ | .cpxAbs _ | .sbcAbs _ | .incAbs _ | .isbAbs _ => true
  | .beq _ | .sbcIndY _ | .isbIndY _ | .nopZpXF4 _ | .sbcZpX _ | .incZpX _ | .isbZpX _ | .sed
  | .sbcAbsY _ | .nopFA | .isbAbsY _ | .nopAbsXFC _ | .sbcAbsX _ | .incAbsX _ | .isbAbsX _ => true

end Sys2Proof
end

