-- ==== Sys2Proof/Certificates/Slice0/Obligations.lean ====
section
/-! DEFINITION. The statements for the provers, each from a numbered rule of the spec or from a promise its
prose makes about the whole core.  First the helpers they share: the rows of every mnemonic (written from the
rules' encoding lines, apart from the decoder), and the states the rules' pseudocode leaves. -/

namespace Sys2Proof.Claims

open Sys2Proof.Machine

/-! ## Rows -/

/-- A row: the instruction, its mode, its opcode, its length and its base cycles. -/
structure Row where
  instr : Instr
  mode : Mode
  opcode : Byte
  bytes : Nat
  cycles : Nat

/-- The row's opcode, length and base cycles are the model's. -/
def Row.Encoded (r : Row) : Prop :=
  r.instr.opcode = r.opcode ∧ (encode r.instr).length = r.bytes ∧ baseCycles r.opcode = r.cycles

/-- A one-byte instruction's opcode and base cycles. -/
def OneByte (i : Instr) (op : Byte) (cycles : Nat) : Prop := encode i = [op] ∧ baseCycles op = cycles

/-- The rows of LDA, from the encoding of rule R76. -/
def ldaRows (m : Byte) (z : Byte) (w : Addr) : List Row :=
  [⟨.ldaImm m, .imm m, 0xA9#8, 2, 2⟩, ⟨.ldaZp z, .zp z, 0xA5#8, 2, 3⟩,
   ⟨.ldaZpX z, .zpX z, 0xB5#8, 2, 4⟩, ⟨.ldaAbs w, .abs w, 0xAD#8, 3, 4⟩,
   ⟨.ldaAbsX w, .absXRead w, 0xBD#8, 3, 4⟩, ⟨.ldaAbsY w, .absYRead w, 0xB9#8, 3, 4⟩,
   ⟨.ldaIndX z, .indX z, 0xA1#8, 2, 6⟩, ⟨.ldaIndY z, .indYRead z, 0xB1#8, 2, 5⟩]

/-- The rows of LDX, from the encoding of rule R77. -/
def ldxRows (m : Byte) (z : Byte) (w : Addr) : List Row :=
  [⟨.ldxImm m, .imm m, 0xA2#8, 2, 2⟩, ⟨.ldxZp z, .zp z, 0xA6#8, 2, 3⟩,
   ⟨.ldxZpY z, .zpY z, 0xB6#8, 2, 4⟩, ⟨.ldxAbs w, .abs w, 0xAE#8, 3, 4⟩,
   ⟨.ldxAbsY w, .absYRead w, 0xBE#8, 3, 4⟩]

/-- The rows of LDY, from the encoding of rule R78. -/
def ldyRows (m : Byte) (z : Byte) (w : Addr) : List Row :=
  [⟨.ldyImm m, .imm m, 0xA0#8, 2, 2⟩, ⟨.ldyZp z, .zp z, 0xA4#8, 2, 3⟩,
   ⟨.ldyZpX z, .zpX z, 0xB4#8, 2, 4⟩, ⟨.ldyAbs w, .abs w, 0xAC#8, 3, 4⟩,
   ⟨.ldyAbsX w, .absXRead w, 0xBC#8, 3, 4⟩]

/-- The rows of LAX, from the encoding of rule R140. -/
def laxRows (_ : Byte) (z : Byte) (w : Addr) : List Row :=
  [⟨.laxZp z, .zp z, 0xA7#8, 2, 3⟩, ⟨.laxZpY z, .zpY z, 0xB7#8, 2, 4⟩,
   ⟨.laxAbs w, .abs w, 0xAF#8, 3, 4⟩, ⟨.laxAbsY w, .absYRead w, 0xBF#8, 3, 4⟩,
   ⟨.laxIndX z, .indX z, 0xA3#8, 2, 6⟩, ⟨.laxIndY z, .indYRead z, 0xB3#8, 2, 5⟩]

/-- The rows of STA, from the encoding of rule R79. -/
def staRows (_ : Byte) (z : Byte) (w : Addr) : List Row :=
  [⟨.staZp z, .zp z, 0x85#8, 2, 3⟩, ⟨.staZpX z, .zpX z, 0x95#8, 2, 4⟩,
   ⟨.staAbs w, .abs w, 0x8D#8, 3, 4⟩, ⟨.staAbsX w, .absXWrite w, 0x9D#8, 3, 5⟩,
   ⟨.staAbsY w, .absYWrite w, 0x99#8, 3, 5⟩, ⟨.staIndX z, .indX z, 0x81#8, 2, 6⟩,
   ⟨.staIndY z, .indYWrite z, 0x91#8, 2, 6⟩]

/-- The rows of STX, from the encoding of rule R80. -/
def stxRows (_ : Byte) (z : Byte) (w : Addr) : List Row :=
  [⟨.stxZp z, .zp z, 0x86#8, 2, 3⟩, ⟨.stxZpY z, .zpY z, 0x96#8, 2, 4⟩,
   ⟨.stxAbs w, .abs w, 0x8E#8, 3, 4⟩]

/-- The rows of STY, from the encoding of rule R81. -/
def styRows (_ : Byte) (z : Byte) (w : Addr) : List Row :=
  [⟨.styZp z, .zp z, 0x84#8, 2, 3⟩, ⟨.styZpX z, .zpX z, 0x94#8, 2, 4⟩,
   ⟨.styAbs w, .abs w, 0x8C#8, 3, 4⟩]

/-- The rows of SAX, from the encoding of rule R141. -/
def saxRows (_ : Byte) (z : Byte) (w : Addr) : List Row :=
  [⟨.saxZp z, .zp z, 0x87#8, 2, 3⟩, ⟨.saxZpY z, .zpY z, 0x97#8, 2, 4⟩,
   ⟨.saxAbs w, .abs w, 0x8F#8, 3, 4⟩, ⟨.saxIndX z, .indX z, 0x83#8, 2, 6⟩]

/-- The rows of ADC, from the encoding of rule R86. -/
def adcRows (m : Byte) (z : Byte) (w : Addr) : List Row :=
  [⟨.adcImm m, .imm m, 0x69#8, 2, 2⟩, ⟨.adcZp z, .zp z, 0x65#8, 2, 3⟩,
   ⟨.adcZpX z, .zpX z, 0x75#8, 2, 4⟩, ⟨.adcAbs w, .abs w, 0x6D#8, 3, 4⟩,
   ⟨.adcAbsX w, .absXRead w, 0x7D#8, 3, 4⟩, ⟨.adcAbsY w, .absYRead w, 0x79#8, 3, 4⟩,
   ⟨.adcIndX z, .indX z, 0x61#8, 2, 6⟩, ⟨.adcIndY z, .indYRead z, 0x71#8, 2, 5⟩]

/-- The rows of SBC, from the encoding of rule R87. -/
def sbcRows (m : Byte) (z : Byte) (w : Addr) : List Row :=
  [⟨.sbcImm m, .imm m, 0xE9#8, 2, 2⟩, ⟨.sbcZp z, .zp z, 0xE5#8, 2, 3⟩,
   ⟨.sbcZpX z, .zpX z, 0xF5#8, 2, 4⟩, ⟨.sbcAbs w, .abs w, 0xED#8, 3, 4⟩,
   ⟨.sbcAbsX w, .absXRead w, 0xFD#8, 3, 4⟩, ⟨.sbcAbsY w, .absYRead w, 0xF9#8, 3, 4⟩,
   ⟨.sbcIndX z, .indX z, 0xE1#8, 2, 6⟩, ⟨.sbcIndY z, .indYRead z, 0xF1#8, 2, 5⟩]

/-- The rows of the undocumented SBC, from the encoding of rule R142. -/
def sbcEBRows (m : Byte) (_ : Byte) (_ : Addr) : List Row :=
  [⟨.sbcImmEB m, .imm m, 0xEB#8, 2, 2⟩]

/-- The rows of AND, from the encoding of rule R88. -/
def andRows (m : Byte) (z : Byte) (w : Addr) : List Row :=
  [⟨.andImm m, .imm m, 0x29#8, 2, 2⟩, ⟨.andZp z, .zp z, 0x25#8, 2, 3⟩,
   ⟨.andZpX z, .zpX z, 0x35#8, 2, 4⟩, ⟨.andAbs w, .abs w, 0x2D#8, 3, 4⟩,
   ⟨.andAbsX w, .absXRead w, 0x3D#8, 3, 4⟩, ⟨.andAbsY w, .absYRead w, 0x39#8, 3, 4⟩,
   ⟨.andIndX z, .indX z, 0x21#8, 2, 6⟩, ⟨.andIndY z, .indYRead z, 0x31#8, 2, 5⟩]

/-- The rows of ORA, from the encoding of rule R89. -/
def oraRows (m : Byte) (z : Byte) (w : Addr) : List Row :=
  [⟨.oraImm m, .imm m, 0x09#8, 2, 2⟩, ⟨.oraZp z, .zp z, 0x05#8, 2, 3⟩,
   ⟨.oraZpX z, .zpX z, 0x15#8, 2, 4⟩, ⟨.oraAbs w, .abs w, 0x0D#8, 3, 4⟩,
   ⟨.oraAbsX w, .absXRead w, 0x1D#8, 3, 4⟩, ⟨.oraAbsY w, .absYRead w, 0x19#8, 3, 4⟩,
   ⟨.oraIndX z, .indX z, 0x01#8, 2, 6⟩, ⟨.oraIndY z, .indYRead z, 0x11#8, 2, 5⟩]

/-- The rows of EOR, from the encoding of rule R90. -/
def eorRows (m : Byte) (z : Byte) (w : Addr) : List Row :=
  [⟨.eorImm m, .imm m, 0x49#8, 2, 2⟩, ⟨.eorZp z, .zp z, 0x45#8, 2, 3⟩,
   ⟨.eorZpX z, .zpX z, 0x55#8, 2, 4⟩, ⟨.eorAbs w, .abs w, 0x4D#8, 3, 4⟩,
   ⟨.eorAbsX w, .absXRead w, 0x5D#8, 3, 4⟩, ⟨.eorAbsY w, .absYRead w, 0x59#8, 3, 4⟩,
   ⟨.eorIndX z, .indX z, 0x41#8, 2, 6⟩, ⟨.eorIndY z, .indYRead z, 0x51#8, 2, 5⟩]

/-- The rows of ANC, from the encoding of rule R149. -/
def ancRows (m : Byte) (_ : Byte) (_ : Addr) : List Row :=
  [⟨.ancImm0B m, .imm m, 0x0B#8, 2, 2⟩, ⟨.ancImm2B m, .imm m, 0x2B#8, 2, 2⟩]

/-- The rows of BIT, from the encoding of rule R91. -/
def bitRows (_ : Byte) (z : Byte) (w : Addr) : List Row :=
  [⟨.bitZp z, .zp z, 0x24#8, 2, 3⟩, ⟨.bitAbs w, .abs w, 0x2C#8, 3, 4⟩]

/-- The rows of CMP, from the encoding of rule R92. -/
def cmpRows (m : Byte) (z : Byte) (w : Addr) : List Row :=
  [⟨.cmpImm m, .imm m, 0xC9#8, 2, 2⟩, ⟨.cmpZp z, .zp z, 0xC5#8, 2, 3⟩,
   ⟨.cmpZpX z, .zpX z, 0xD5#8, 2, 4⟩, ⟨.cmpAbs w, .abs w, 0xCD#8, 3, 4⟩,
   ⟨.cmpAbsX w, .absXRead w, 0xDD#8, 3, 4⟩, ⟨.cmpAbsY w, .absYRead w, 0xD9#8, 3, 4⟩,
   ⟨.cmpIndX z, .indX z, 0xC1#8, 2, 6⟩, ⟨.cmpIndY z, .indYRead z, 0xD1#8, 2, 5⟩]

/-- The rows of CPX, from the encoding of rule R93. -/
def cpxRows (m : Byte) (z : Byte) (w : Addr) : List Row :=
  [⟨.cpxImm m, .imm m, 0xE0#8, 2, 2⟩, ⟨.cpxZp z, .zp z, 0xE4#8, 2, 3⟩,
   ⟨.cpxAbs w, .abs w, 0xEC#8, 3, 4⟩]

/-- The rows of CPY, from the encoding of rule R94. -/
def cpyRows (m : Byte) (z : Byte) (w : Addr) : List Row :=
  [⟨.cpyImm m, .imm m, 0xC0#8, 2, 2⟩, ⟨.cpyZp z, .zp z, 0xC4#8, 2, 3⟩,
   ⟨.cpyAbs w, .abs w, 0xCC#8, 3, 4⟩]

/-- The rows of ASL, memory forms, from the encoding of rule R97. -/
def aslRows (_ : Byte) (z : Byte) (w : Addr) : List Row :=
  [⟨.aslZp z, .zp z, 0x06#8, 2, 5⟩, ⟨.aslZpX z, .zpX z, 0x16#8, 2, 6⟩,
   ⟨.aslAbs w, .abs w, 0x0E#8, 3, 6⟩, ⟨.aslAbsX w, .absXWrite w, 0x1E#8, 3, 7⟩]

/-- The rows of LSR, memory forms, from the encoding of rule R98. -/
def lsrRows (_ : Byte) (z : Byte) (w : Addr) : List Row :=
  [⟨.lsrZp z, .zp z, 0x46#8, 2, 5⟩, ⟨.lsrZpX z, .zpX z, 0x56#8, 2, 6⟩,
   ⟨.lsrAbs w, .abs w, 0x4E#8, 3, 6⟩, ⟨.lsrAbsX w, .absXWrite w, 0x5E#8, 3, 7⟩]

/-- The rows of ROL, memory forms, from the encoding of rule R99. -/
def rolRows (_ : Byte) (z : Byte) (w : Addr) : List Row :=
  [⟨.rolZp z, .zp z, 0x26#8, 2, 5⟩, ⟨.rolZpX z, .zpX z, 0x36#8, 2, 6⟩,
   ⟨.rolAbs w, .abs w, 0x2E#8, 3, 6⟩, ⟨.rolAbsX w, .absXWrite w, 0x3E#8, 3, 7⟩]

/-- The rows of ROR, memory forms, from the encoding of rule R100. -/
def rorRows (_ : Byte) (z : Byte) (w : Addr) : List Row :=
  [⟨.rorZp z, .zp z, 0x66#8, 2, 5⟩, ⟨.rorZpX z, .zpX z, 0x76#8, 2, 6⟩,
   ⟨.rorAbs w, .abs w, 0x6E#8, 3, 6⟩, ⟨.rorAbsX w, .absXWrite w, 0x7E#8, 3, 7⟩]

/-- The rows of INC, from the encoding of rule R101. -/
def incRows (_ : Byte) (z : Byte) (w : Addr) : List Row :=
  [⟨.incZp z, .zp z, 0xE6#8, 2, 5⟩, ⟨.incZpX z, .zpX z, 0xF6#8, 2, 6⟩,
   ⟨.incAbs w, .abs w, 0xEE#8, 3, 6⟩, ⟨.incAbsX w, .absXWrite w, 0xFE#8, 3, 7⟩]

/-- The rows of DEC, from the encoding of rule R102. -/
def decRows (_ : Byte) (z : Byte) (w : Addr) : List Row :=
  [⟨.decZp z, .zp z, 0xC6#8, 2, 5⟩, ⟨.decZpX z, .zpX z, 0xD6#8, 2, 6⟩,
   ⟨.decAbs w, .abs w, 0xCE#8, 3, 6⟩, ⟨.decAbsX w, .absXWrite w, 0xDE#8, 3, 7⟩]

/-- The rows of JMP, from the encoding of rule R117. -/
def jmpRows (_ : Byte) (_ : Byte) (w : Addr) : List Row :=
  [⟨.jmpAbs w, .abs w, 0x4C#8, 3, 3⟩, ⟨.jmpInd w, .indirect w, 0x6C#8, 3, 5⟩]

/-- The rows of the undocumented NOPs with an operand, from the encoding of rule R139. -/
def nopRows (m : Byte) (z : Byte) (w : Addr) : List Row :=
  [⟨.nopImm80 m, .imm m, 0x80#8, 2, 2⟩, ⟨.nopImm82 m, .imm m, 0x82#8, 2, 2⟩,
   ⟨.nopImm89 m, .imm m, 0x89#8, 2, 2⟩, ⟨.nopImmC2 m, .imm m, 0xC2#8, 2, 2⟩,
   ⟨.nopImmE2 m, .imm m, 0xE2#8, 2, 2⟩, ⟨.nopZp04 z, .zp z, 0x04#8, 2, 3⟩,
   ⟨.nopZp44 z, .zp z, 0x44#8, 2, 3⟩, ⟨.nopZp64 z, .zp z, 0x64#8, 2, 3⟩,
   ⟨.nopZpX14 z, .zpX z, 0x14#8, 2, 4⟩, ⟨.nopZpX34 z, .zpX z, 0x34#8, 2, 4⟩,
   ⟨.nopZpX54 z, .zpX z, 0x54#8, 2, 4⟩, ⟨.nopZpX74 z, .zpX z, 0x74#8, 2, 4⟩,
   ⟨.nopZpXD4 z, .zpX z, 0xD4#8, 2, 4⟩, ⟨.nopZpXF4 z, .zpX z, 0xF4#8, 2, 4⟩,
   ⟨.nopAbs0C w, .abs w, 0x0C#8, 3, 4⟩, ⟨.nopAbsX1C w, .absXRead w, 0x1C#8, 3, 4⟩,
   ⟨.nopAbsX3C w, .absXRead w, 0x3C#8, 3, 4⟩, ⟨.nopAbsX5C w, .absXRead w, 0x5C#8, 3, 4⟩,
   ⟨.nopAbsX7C w, .absXRead w, 0x7C#8, 3, 4⟩, ⟨.nopAbsXDC w, .absXRead w, 0xDC#8, 3, 4⟩,
   ⟨.nopAbsXFC w, .absXRead w, 0xFC#8, 3, 4⟩]

/-- The rows of SLO, from the encoding of rule R143. -/
def sloRows (_ : Byte) (z : Byte) (w : Addr) : List Row :=
  [⟨.sloZp z, .zp z, 0x07#8, 2, 5⟩, ⟨.sloZpX z, .zpX z, 0x17#8, 2, 6⟩,
   ⟨.sloAbs w, .abs w, 0x0F#8, 3, 6⟩, ⟨.sloAbsX w, .absXWrite w, 0x1F#8, 3, 7⟩,
   ⟨.sloAbsY w, .absYWrite w, 0x1B#8, 3, 7⟩, ⟨.sloIndX z, .indX z, 0x03#8, 2, 8⟩,
   ⟨.sloIndY z, .indYWrite z, 0x13#8, 2, 8⟩]

/-- The rows of RLA, from the encoding of rule R144. -/
def rlaRows (_ : Byte) (z : Byte) (w : Addr) : List Row :=
  [⟨.rlaZp z, .zp z, 0x27#8, 2, 5⟩, ⟨.rlaZpX z, .zpX z, 0x37#8, 2, 6⟩,
   ⟨.rlaAbs w, .abs w, 0x2F#8, 3, 6⟩, ⟨.rlaAbsX w, .absXWrite w, 0x3F#8, 3, 7⟩,
   ⟨.rlaAbsY w, .absYWrite w, 0x3B#8, 3, 7⟩, ⟨.rlaIndX z, .indX z, 0x23#8, 2, 8⟩,
   ⟨.rlaIndY z, .indYWrite z, 0x33#8, 2, 8⟩]

/-- The rows of SRE, from the encoding of rule R145. -/
def sreRows (_ : Byte) (z : Byte) (w : Addr) : List Row :=
  [⟨.sreZp z, .zp z, 0x47#8, 2, 5⟩, ⟨.sreZpX z, .zpX z, 0x57#8, 2, 6⟩,
   ⟨.sreAbs w, .abs w, 0x4F#8, 3, 6⟩, ⟨.sreAbsX w, .absXWrite w, 0x5F#8, 3, 7⟩,
   ⟨.sreAbsY w, .absYWrite w, 0x5B#8, 3, 7⟩, ⟨.sreIndX z, .indX z, 0x43#8, 2, 8⟩,
   ⟨.sreIndY z, .indYWrite z, 0x53#8, 2, 8⟩]

/-- The rows of RRA, from the encoding of rule R146. -/
def rraRows (_ : Byte) (z : Byte) (w : Addr) : List Row :=
  [⟨.rraZp z, .zp z, 0x67#8, 2, 5⟩, ⟨.rraZpX z, .zpX z, 0x77#8, 2, 6⟩,
   ⟨.rraAbs w, .abs w, 0x6F#8, 3, 6⟩, ⟨.rraAbsX w, .absXWrite w, 0x7F#8, 3, 7⟩,
   ⟨.rraAbsY w, .absYWrite w, 0x7B#8, 3, 7⟩, ⟨.rraIndX z, .indX z, 0x63#8, 2, 8⟩,
   ⟨.rraIndY z, .indYWrite z, 0x73#8, 2, 8⟩]

/-- The rows of DCP, from the encoding of rule R147. -/
def dcpRows (_ : Byte) (z : Byte) (w : Addr) : List Row :=
  [⟨.dcpZp z, .zp z, 0xC7#8, 2, 5⟩, ⟨.dcpZpX z, .zpX z, 0xD7#8, 2, 6⟩,
   ⟨.dcpAbs w, .abs w, 0xCF#8, 3, 6⟩, ⟨.dcpAbsX w, .absXWrite w, 0xDF#8, 3, 7⟩,
   ⟨.dcpAbsY w, .absYWrite w, 0xDB#8, 3, 7⟩, ⟨.dcpIndX z, .indX z, 0xC3#8, 2, 8⟩,
   ⟨.dcpIndY z, .indYWrite z, 0xD3#8, 2, 8⟩]

/-- The rows of ISB, from the encoding of rule R148. -/
def isbRows (_ : Byte) (z : Byte) (w : Addr) : List Row :=
  [⟨.isbZp z, .zp z, 0xE7#8, 2, 5⟩, ⟨.isbZpX z, .zpX z, 0xF7#8, 2, 6⟩,
   ⟨.isbAbs w, .abs w, 0xEF#8, 3, 6⟩, ⟨.isbAbsX w, .absXWrite w, 0xFF#8, 3, 7⟩,
   ⟨.isbAbsY w, .absYWrite w, 0xFB#8, 3, 7⟩, ⟨.isbIndX z, .indX z, 0xE3#8, 2, 8⟩,
   ⟨.isbIndY z, .indYWrite z, 0xF3#8, 2, 8⟩]

/-- The rows of SHY, from the encoding of rule R150. -/
def shyRows (_ : Byte) (_ : Byte) (w : Addr) : List Row :=
  [⟨.shyAbsX w, .absXWrite w, 0x9C#8, 3, 5⟩]

/-- The rows of SHX, from the encoding of rule R151. -/
def shxRows (_ : Byte) (_ : Byte) (w : Addr) : List Row :=
  [⟨.shxAbsY w, .absYWrite w, 0x9E#8, 3, 5⟩]

/-- The 21 opcodes of rule R47. -/
def unsupportedOpcodes : List Byte :=
  [0x02#8, 0x12#8, 0x22#8, 0x32#8, 0x42#8, 0x52#8, 0x62#8, 0x72#8, 0x92#8, 0xB2#8, 0xD2#8, 0xF2#8]
    ++ [0x4B#8, 0x6B#8, 0x8B#8, 0x93#8, 0x9F#8, 0x9B#8, 0xAB#8, 0xBB#8, 0xCB#8]

/-- The instructions of those opcodes. -/
def unsupportedInstrs : List Instr :=
  [.jam02, .jam12, .jam22, .jam32, .jam42, .jam52, .jam62, .jam72, .jam92, .jamB2, .jamD2, .jamF2]
    ++ [.alr, .arr, .xaa, .ahx93, .ahx9F, .tas, .lxa, .las, .axs]

/-! ## States -/

/-- P with Z and N from a byte, as SetZN writes them (rule R21). -/
def zn (v : Byte) (p : Flags) : Flags := { p with z := v == 0x00#8, n := v.getLsbD 7 }

/-- The state that reads its operand as the mode says, then turns the registers before into `g operand regs`; the
bus and `cyc` are as reading the operand leaves them. -/
def afterRead (m : Mode) (g : Byte → Regs → Regs) (s : State) : State :=
  let q := readOp m s
  { q.2 with regs := g q.1 s.regs }

/-- The state that stores `v` at the address the mode gives, its registers unchanged. -/
def afterStore (m : Mode) (v : Byte) (s : State) : State :=
  let q := resolve m s
  { memWrite q.1 v q.2 with regs := s.regs }

/-- The state that loads the byte `v` at the address the mode gives, stores `f v P` back there, and turns the
registers before into `g v regs`. -/
def afterRmw (m : Mode) (f : Byte → Flags → Byte) (g : Byte → Regs → Regs) (s : State) : State :=
  let q := resolve m s
  let l := memRead q.1 q.2
  { memWrite q.1 (f l.1 s.regs.p) l.2 with regs := g l.1 s.regs }

/-- The state with other registers and nothing else changed. -/
def withRegs (g : Regs → Regs) (s : State) : State := { s with regs := g s.regs }

/-- `s` with D set to `d`. -/
def withD (d : Bool) (s : State) : State :=
  { s with regs := { s.regs with p := { s.regs.p with d := d } } }

/-- The next state mapped by `f`; a stop unchanged. -/
def mapNext (f : State → State) : Result → Result
  | .next t => .next (f t)
  | .fault r => .fault r
  | .refused r => .refused r

/-- The byte the bus answers to the `k`-th load from now, if that is the fetch at PC + k and nothing is stored
before it. -/
def fetched (s : State) (k : Nat) : Byte :=
  (s.bus.answers.getD k none).getD (s.bus.mem.read (s.regs.pc + BitVec.ofNat 16 k).toNat)

/-- The state in which an instruction is executed: its bytes fetched one by one, PC past them, `cyc` its base cost.
-/
def atExecute (i : Instr) (s : State) : State :=
  let n := (encode i).length
  { s with
    regs := { s.regs with pc := s.regs.pc + BitVec.ofNat 16 n }
    cyc := baseCycles i.opcode
    bus :=
      { s.bus with
        answers := s.bus.answers.drop n
        trace :=
          ((List.range n).map fun k =>
            BusEvent.load (s.regs.pc + BitVec.ofNat 16 k) (fetched s k)).reverse ++ s.bus.trace } }

/-- The record of opcode `op` fetched in `s`: PC is the opcode's address plus one, the other registers are those
before the step (rule R153). -/
def fatalRecord (op : Byte) (s : State) : FaultRecord :=
  { opcode := op
    snapshot :=
      { a := s.regs.a, x := s.regs.x, y := s.regs.y, pc := s.regs.pc + 1, sp := s.regs.sp, p := packP s.regs.p } }

/-- The state a fatal step leaves: the opcode fetched, nothing else done, the fault kept (rule R153). -/
def faulted (op : Byte) (s : State) : State :=
  { s with
    regs := { s.regs with pc := s.regs.pc + 1 }
    cyc := 0
    fault := some (fatalRecord op s)
    bus := { s.bus with answers := s.bus.answers.tail, trace := .load s.regs.pc op :: s.bus.trace } }

/-- The bus after an interrupt's three pushes and two vector loads (rule R156). -/
def pushedFrame (pushed : Byte) (pc : Addr) (sp : Byte) (b : Bus) : Bus :=
  ((b.store (word 0x01#8 sp) (hi pc)).store (word 0x01#8 (sp - 1)) (lo pc)).store (word 0x01#8 (sp - 2)) pushed

/-- The state after an interrupt entry that pushes `pc` and `pushed` (rule R156). -/
def entered (vector : Addr) (pushed : Byte) (setI : Bool) (pc : Addr) (s : State) : State :=
  let b0 := pushedFrame pushed pc s.regs.sp s.bus
  let l := b0.load vector
  let h := l.2.load (vector + 1)
  { s with
    regs :=
      { s.regs with sp := s.regs.sp - 3, pc := word h.1 l.1, p := { s.regs.p with i := s.regs.p.i || setI } }
    bus := h.2 }

/-- The addresses an instruction stores to, with the functions its meaning uses (rules R58, R35, R150 and R151). -/
def targets (i : Instr) (s : State) : List Addr :=
  let sp := s.regs.sp
  match i with
  | .sloIndX z => [(resolve (.indX z) s).1]
  | .aslZp z => [(resolve (.zp z) s).1]
  | .sloZp z => [(resolve (.zp z) s).1]
  | .aslAbs w => [(resolve (.abs w) s).1]
  | .sloAbs w => [(resolve (.abs w) s).1]
  | .sloIndY z => [(resolve (.indYWrite z) s).1]
  | .aslZpX z => [(resolve (.zpX z) s).1]
  | .sloZpX z => [(resolve (.zpX z) s).1]
  | .sloAbsY w => [(resolve (.absYWrite w) s).1]
  | .aslAbsX w => [(resolve (.absXWrite w) s).1]
  | .sloAbsX w => [(resolve (.absXWrite w) s).1]
  | .rlaIndX z => [(resolve (.indX z) s).1]
  | .rolZp z => [(resolve (.zp z) s).1]
  | .rlaZp z => [(resolve (.zp z) s).1]
  | .rolAbs w => [(resolve (.abs w) s).1]
  | .rlaAbs w => [(resolve (.abs w) s).1]
  | .rlaIndY z => [(resolve (.indYWrite z) s).1]
  | .rolZpX z => [(resolve (.zpX z) s).1]
  | .rlaZpX z => [(resolve (.zpX z) s).1]
  | .rlaAbsY w => [(resolve (.absYWrite w) s).1]
  | .rolAbsX w => [(resolve (.absXWrite w) s).1]
  | .rlaAbsX w => [(resolve (.absXWrite w) s).1]
  | .sreIndX z => [(resolve (.indX z) s).1]
  | .lsrZp z => [(resolve (.zp z) s).1]
  | .sreZp z => [(resolve (.zp z) s).1]
  | .lsrAbs w => [(resolve (.abs w) s).1]
  | .sreAbs w => [(resolve (.abs w) s).1]
  | .sreIndY z => [(resolve (.indYWrite z) s).1]
  | .lsrZpX z => [(resolve (.zpX z) s).1]
  | .sreZpX z => [(resolve (.zpX z) s).1]
  | .sreAbsY w => [(resolve (.absYWrite w) s).1]
  | .lsrAbsX w => [(resolve (.absXWrite w) s).1]
  | .sreAbsX w => [(resolve (.absXWrite w) s).1]
  | .rraIndX z => [(resolve (.indX z) s).1]
  | .rorZp z => [(resolve (.zp z) s).1]
  | .rraZp z => [(resolve (.zp z) s).1]
  | .rorAbs w => [(resolve (.abs w) s).1]
  | .rraAbs w => [(resolve (.abs w) s).1]
  | .rraIndY z => [(resolve (.indYWrite z) s).1]
  | .rorZpX z => [(resolve (.zpX z) s).1]
  | .rraZpX z => [(resolve (.zpX z) s).1]
  | .rraAbsY w => [(resolve (.absYWrite w) s).1]
  | .rorAbsX w => [(resolve (.absXWrite w) s).1]
  | .rraAbsX w => [(resolve (.absXWrite w) s).1]
  | .staIndX z => [(resolve (.indX z) s).1]
  | .saxIndX z => [(resolve (.indX z) s).1]
  | .styZp z => [(resolve (.zp z) s).1]
  | .staZp z => [(resolve (.zp z) s).1]
  | .stxZp z => [(resolve (.zp z) s).1]
  | .saxZp z => [(resolve (.zp z) s).1]
  | .styAbs w => [(resolve (.abs w) s).1]
  | .staAbs w => [(resolve (.abs w) s).1]
  | .stxAbs w => [(resolve (.abs w) s).1]
  | .saxAbs w => [(resolve (.abs w) s).1]
  | .staIndY z => [(resolve (.indYWrite z) s).1]
  | .styZpX z => [(resolve (.zpX z) s).1]
  | .staZpX z => [(resolve (.zpX z) s).1]
  | .stxZpY z => [(resolve (.zpY z) s).1]
  | .saxZpY z => [(resolve (.zpY z) s).1]
  | .staAbsY w => [(resolve (.absYWrite w) s).1]
  | .staAbsX w => [(resolve (.absXWrite w) s).1]
  | .dcpIndX z => [(resolve (.indX z) s).1]
  | .decZp z => [(resolve (.zp z) s).1]
  | .dcpZp z => [(resolve (.zp z) s).1]
  | .decAbs w => [(resolve (.abs w) s).1]
  | .dcpAbs w => [(resolve (.abs w) s).1]
  | .dcpIndY z => [(resolve (.indYWrite z) s).1]
  | .decZpX z => [(resolve (.zpX z) s).1]
  | .dcpZpX z => [(resolve (.zpX z) s).1]
  | .dcpAbsY w => [(resolve (.absYWrite w) s).1]
  | .decAbsX w => [(resolve (.absXWrite w) s).1]
  | .dcpAbsX w => [(resolve (.absXWrite w) s).1]
  | .isbIndX z => [(resolve (.indX z) s).1]
  | .incZp z => [(resolve (.zp z) s).1]
  | .isbZp z => [(resolve (.zp z) s).1]
  | .incAbs w => [(resolve (.abs w) s).1]
  | .isbAbs w => [(resolve (.abs w) s).1]
  | .isbIndY z => [(resolve (.indYWrite z) s).1]
  | .incZpX z => [(resolve (.zpX z) s).1]
  | .isbZpX z => [(resolve (.zpX z) s).1]
  | .isbAbsY w => [(resolve (.absYWrite w) s).1]
  | .incAbsX w => [(resolve (.absXWrite w) s).1]
  | .isbAbsX w => [(resolve (.absXWrite w) s).1]
  | .shyAbsX w => [shAddr (shValue s.regs.y w) w (w + zext s.regs.x)]
  | .shxAbsY w => [shAddr (shValue s.regs.x w) w (w + zext s.regs.y)]
  | .pha => [stackAddr sp]
  | .php => [stackAddr sp]
  | .jsr _ => [stackAddr sp, stackAddr (sp - 1)]
  | .brk => [stackAddr sp, stackAddr (sp - 1), stackAddr (sp - 1 - 1)]
  | _ => []

/-- The addresses of the bytes an instruction may change: those it stores to, and OAM_DATA_ADDR if one of them is
the DMA trigger (rules R28 and R37). -/
def storedAddrs (i : Instr) (s : State) : List Addr :=
  targets i s ++ (if 0x4014#16 ∈ targets i s then [0x2004#16] else [])

/-- The 256 load and store pairs of an OAM DMA of page `v` that moved the bytes `ts`, oldest first (rule R37). -/
def dmaPairs (v : Byte) (ts : List Byte) : List BusEvent :=
  (List.range 256).flatMap fun i =>
    [BusEvent.load (word v (BitVec.ofNat 8 i)) (ts.getD i 0x00#8), BusEvent.store 0x2004#16 (ts.getD i 0x00#8)]

end Sys2Proof.Claims

open Sys2Proof Sys2Proof.Machine Sys2Proof.Claims

/-! ## Encoding -/

/-- Rules R42 to R44 (30_encoding.md): the decoder gives back every encoded instruction, with every operand, and
leaves the bytes after it. (That an unsupported opcode is one byte long is the model's reading, log entry 11.) -/
def Obligations.DecodeEncodeRoundTrip : Prop :=
  ∀ (i : Instr) (rest : List Byte), decode (encode i ++ rest) = .ok (i, rest)

/-- Rules R42 to R44: what the decoder accepts is exactly the encoding of what it answers. (That an
unsupported opcode is one byte long is the model's reading, log entry 11.) -/
def Obligations.DecodedBytesAreTheEncoding : Prop :=
  ∀ (bs rest : List Byte) (i : Instr), decode bs = .ok (i, rest) → bs = encode i ++ rest

/-- A few words written out from the opcode map of 30_encoding.md §3 and the encoding lines of the instruction
rules. (The last clause, that the unsupported opcode 0x02 is one byte long and leaves the byte after it, rests on
the model's reading, log entry 11.) -/
def Obligations.SpecWordsDecode : Prop :=
  decode [0xA9#8, 0x05#8] = .ok (.ldaImm 0x05#8, []) ∧
  decode [0x4C#8, 0x00#8, 0xC0#8] = .ok (.jmpAbs 0xC000#16, []) ∧
  decode [0xC7#8, 0x10#8] = .ok (.dcpZp 0x10#8, []) ∧
  decode [0x9E#8, 0x10#8, 0x02#8] = .ok (.shxAbsY 0x0210#16, []) ∧
  decode [0xD0#8, 0xFB#8] = .ok (.bne 0xFB#8, []) ∧
  decode [0x40#8] = .ok (.rti, []) ∧
  decode [0x02#8, 0xEA#8] = .ok (.jam02, [0xEA#8])

/-- Rules R42 and R44: every opcode byte decodes, the opcode alone fixes the length, which is 1, 2 or 3, and the
decoder takes that many bytes. (That an unsupported opcode takes one byte is the model's reading, log entry 11.) -/
def Obligations.EveryOpcodeDecodes : Prop :=
  ∀ (op b1 b2 : Byte), ∃ i : Instr, i.opcode = op ∧ lengthOf op = (encode i).length ∧
    1 ≤ lengthOf op ∧ lengthOf op ≤ 3 ∧
    decode [op, b1, b2] = .ok (i, [op, b1, b2].drop (lengthOf op))

/-- Rule R47 (the set is the spec's decision D7): exactly the 21 opcodes are unsupported, and each of their
instructions raises UnsupportedOpcode whatever the state is. -/
def Obligations.UnsupportedOpcodesAreTheTwentyOne : Prop :=
  unsupportedOpcodes.length = 21 ∧
  (∀ op : Byte, unsupported op = true ↔ op ∈ unsupportedOpcodes) ∧
  (∀ i : Instr, i.wellFormed = false ↔ i.opcode ∈ unsupportedOpcodes) ∧
  (∀ i ∈ unsupportedInstrs, i.opcode ∈ unsupportedOpcodes ∧
    ∀ s : State, exec i s = .fault (.unsupportedOpcode { opcode := i.opcode, snapshot := snapshot s }))

/-! ## The step -/

/-- Rules R50, R51 and R43: a step of a core that is not faulted, when the bytes the bus answers decode to an
admitted instruction, is that instruction's execution after its bytes are fetched and its base cost charged; a
completed step then adds its count to `total_cycles` and zeroes `cyc`. -/
def Obligations.StepRunsTheDecodedInstruction : Prop :=
  ∀ (s : State) (i : Instr) (rest : List Byte), s.fault = none →
    decode [fetched s 0, fetched s 1, fetched s 2] = .ok (i, rest) → i.wellFormed = true →
    step s = mapNext (fun t => { t with totalCycles := t.totalCycles + t.cyc, cyc := 0 }) (exec i (atExecute i s))

/-- Rule R153 (with the spec's decisions D18 and D34): a step that fetches an unsupported opcode is fatal with the
opcode and the registers after the fetch; it makes one load, charges nothing and leaves the core faulted; then every
step returns the same record with no bus access, `nmi()` and `irq()` do nothing and return 0, `snapshot()` still
reads, `restore` writes registers without clearing the fault, and `reset()` clears it. -/
def Obligations.UnsupportedOpcodeIsFatal : Prop :=
  ∀ (s : State), s.fault = none → fetched s 0 ∈ unsupportedOpcodes →
    let op := fetched s 0
    let t := faulted op s
    step s = .fault (.unsupportedOpcode (fatalRecord op s)) ∧
    stepCall s = (.fatal (fatalRecord op s), t) ∧
    step t = .fault (.unsupportedOpcode (fatalRecord op s)) ∧
    stepCall t = (.fatal (fatalRecord op s), t) ∧
    nmi t = (0, t) ∧ irq t = (0, t) ∧
    hostCall .snapshot t = (.record (snapshot t), t) ∧
    (∀ r : Snapshot, (hostCall (.restore r) t).2.fault = t.fault ∧
      (hostCall (.restore r) t).2.regs.a = r.a ∧ (hostCall (.restore r) t).2.regs.pc = r.pc) ∧
    (hostCall .reset t).2.fault = none

/-- Rule R152: the unsupported opcode is the only way a step stops, and no step is refused. -/
def Obligations.StepStopsOnlyOnUnsupportedOpcodes : Prop :=
  ∀ s : State, (∀ r, step s ≠ .refused r) ∧
    ((∃ r, step s = .fault r) ↔ (s.fault ≠ none ∨ fetched s 0 ∈ unsupportedOpcodes))

/-- Rule R55 (which the spec derives from its tables; decisions D11 and D28): a step's count is at least 2; at most
8 when its transactions hold no store to the DMA trigger, at most 522 in any case; `cyc` is 0 after it. -/
def Obligations.StepCycleBounds : Prop :=
  ∀ s t : State, step s = .next t →
    t.cyc = 0 ∧ s.totalCycles + 2 ≤ t.totalCycles ∧ t.totalCycles ≤ s.totalCycles + 522 ∧
    ∃ new, t.bus.trace = new ++ s.bus.trace ∧
      ((∀ v, BusEvent.store 0x4014#16 v ∉ new) → t.totalCycles ≤ s.totalCycles + 8)

/-- Every step keeps memory's canonical form and ends with `cyc` 0 (rules R26 and R50). -/
def Obligations.StepKeepsInvariant : Prop :=
  ∀ s t : State, s.Inv → step s = .next t → t.Inv

/-- Every host operation keeps them, a fatal step among them (rule R3). -/
def Obligations.HostCallsKeepInvariant : Prop :=
  ∀ (calls : List HostCall) (s : State), s.Inv → (hostRun calls s).2.Inv

/-- The state after reset meets the invariant, and B is clear in it (rules R18 and R169). -/
def Obligations.ResetMeetsInvariant : Prop := State.reset.Inv ∧ State.reset.BreakClear

/-- Rule R18 (the spec's decision D5): from a state whose B is 0, no host operation but `restore` leaves B at 1. -/
def Obligations.OnlyRestoreSetsBreak : Prop :=
  ∀ (c : HostCall) (s : State), (∀ r, c ≠ .restore r) → s.BreakClear → (hostCall c s).2.BreakClear

/-- Rules R51 and R174: the transactions of a completed step are added to those before, and the first of them is the
opcode fetch at PC. -/
def Obligations.StepBeginsWithTheOpcodeFetch : Prop :=
  ∀ s t : State, step s = .next t →
    ∃ new, t.bus.trace = new ++ BusEvent.load s.regs.pc (fetched s 0) :: s.bus.trace

/-- Rules R24 and R174 (the spec's decisions D18 and D36): once faulted, the core stays as it is under every host
operation but `reset` and `restore`, and `restore` changes registers only. -/
def Obligations.FaultedCoreIsQuiescent : Prop :=
  ∀ (calls : List HostCall) (s : State) (r : FaultRecord), s.fault = some r → HostCall.reset ∉ calls →
    (hostRun calls s).2 = { s with regs := (hostRun calls s).2.regs } ∧
    ((∀ q, HostCall.restore q ∉ calls) → (hostRun calls s).2 = s)

/-! ## Reset, snapshot, interrupts -/

/-- Rule R169 (with the spec's decisions D12, D18, D21 and D30): `reset()` from any state gives the power-up values
and PC from the reset vector by two loads, low byte first, pushing and charging nothing; `reset_to(address)` skips
the loads. -/
def Obligations.ResetSetsPowerUpValues : Prop :=
  ∀ s : State,
    let l := s.bus.load 0xFFFC#16
    let h := l.2.load 0xFFFD#16
    hostReset s =
      { regs :=
          { a := 0x00#8, x := 0x00#8, y := 0x00#8, sp := 0xFD#8, pc := word h.1 l.1
            p := { n := false, v := false, b := false, d := false, i := true, z := false, c := false } }
        cyc := 0, totalCycles := 0, fault := none, bus := h.2 } ∧
    packP (hostReset s).regs.p = 0x24#8 ∧
    (∀ a, resetTo a s = { hostReset s with regs := { (hostReset s).regs with pc := a }, bus := s.bus })

/-- State.reset is `reset()` of a core whose memory lists nothing (the MODEL's choice of memory, log entry 2). -/
def Obligations.ResetStateIsResetOfEmptyMemory : Prop :=
  ∀ s : State, s.bus = { mem := [], answers := [], trace := [] } → hostReset s = State.reset

/-- Rule R171, and rule R172 (the spec's decision D22): `snapshot()` reads the six registers with P packed and
changes nothing; `restore` writes them, B from bit 4 and bit 5 ignored, and nothing else; each undoes the other, bit
5 reading 1. -/
def Obligations.SnapshotAndRestoreRoundTrip : Prop :=
  ∀ (s : State) (r : Snapshot),
    hostCall .snapshot s =
      (.record { a := s.regs.a, x := s.regs.x, y := s.regs.y, pc := s.regs.pc, sp := s.regs.sp, p := packP s.regs.p },
        s) ∧
    hostCall (.restore r) s =
      (.done,
        { s with
          regs :=
            { a := r.a, x := r.x, y := r.y, pc := r.pc, sp := r.sp
              p :=
                { c := r.p.getLsbD 0, z := r.p.getLsbD 1, i := r.p.getLsbD 2, d := r.p.getLsbD 3
                  b := r.p.getLsbD 4, v := r.p.getLsbD 6, n := r.p.getLsbD 7 } } }) ∧
    restore (snapshot s) s = s ∧
    snapshot (restore r s) = { r with p := r.p ||| 0x20#8 }

/-- Rule R156: the common entry pushes PC high then low and the given byte, sets I only if asked, loads PC from the
vector, and changes nothing else. -/
def Obligations.InterruptEntrySequence : Prop :=
  ∀ (vector : Addr) (pushed : Byte) (setI : Bool) (s : State),
    enterInterrupt vector pushed setI s = entered vector pushed setI s.regs.pc s

/-- Rule R157 (with the spec's decisions D12, D13, D16, D18 and D30): `nmi()` enters through 0xFFFA with the live
status byte pushed unmodified, I left alone and PC pushed as it is; it returns 7 and adds 7 to the running total; on
a faulted core it does nothing and returns 0. -/
def Obligations.NmiEntry : Prop :=
  ∀ s : State,
    (s.fault ≠ none → nmi s = (0, s)) ∧
    (s.fault = none →
      nmi s = (7, { entered 0xFFFA#16 (packP s.regs.p) false s.regs.pc s with totalCycles := s.totalCycles + 7 }))

/-- Rule R158 (with the spec's decisions D13, D14, D15, D18 and D30): `irq()` does nothing and returns 0 on a
faulted core or while I is 1; otherwise PC is advanced by one and it enters through 0xFFFE with bit 4 of the pushed
byte set, I set after the push, returning 7. The style `hardware` pushes the unadvanced PC and bit 4 = 0. -/
def Obligations.IrqEntry : Prop :=
  ∀ s : State,
    (s.fault ≠ none → irq s = (0, s)) ∧
    (s.fault = none → s.regs.p.i = true → irq s = (0, s)) ∧
    (s.fault = none → s.regs.p.i = false →
      irq s =
        (7, { entered 0xFFFE#16 (packPush s.regs.p) true (s.regs.pc + 1) s with totalCycles := s.totalCycles + 7 })) ∧
    irqEntry .hardware s = entered 0xFFFE#16 (packP s.regs.p &&& 0xEF#8) true s.regs.pc s

/-- Rule R155 (the spec's decisions D16 and D35): with I = 0 and both requested, the `irq()` after the `nmi()` is
taken at once, since the NMI entry leaves I unchanged. -/
def Obligations.NmiThenIrqAreBothTaken : Prop :=
  ∀ s : State, s.fault = none → s.regs.p.i = false →
    (nmi s).1 = 7 ∧ (irq (nmi s).2).1 = 7 ∧ (irq (nmi s).2).2.totalCycles = s.totalCycles + 14 ∧
    (irq (nmi s).2).2.regs.sp = s.regs.sp - 6 ∧ (irq (nmi s).2).2.regs.p.i = true

/-- Rules R159, R160 and R161 (with the spec's decisions D20 and D33): on a bus that answers from memory, RTI after
BRK resumes past the padding byte with every register as before but B, which is 0. -/
def Obligations.BrkThenRtiResumesPastThePadding : Prop :=
  ∀ s : State, s.bus.mem.wf = true → s.bus.answers = [] →
    ∃ t u, exec .brk s = .next t ∧ exec .rti t = .next u ∧
      u.regs = { s.regs with pc := s.regs.pc + 1, p := { s.regs.p with b := false } }

/-- Rules R118 and R119 (with the spec's decisions D19 and D33): on a bus that answers from memory, RTS after JSR
resumes at the instruction after the JSR with every register as before. -/
def Obligations.JsrThenRtsReturns : Prop :=
  ∀ (s : State) (w : Addr), s.bus.mem.wf = true → s.bus.answers = [] →
    ∃ t u, exec (.jsr w) s = .next t ∧ t.regs.pc = w ∧ exec .rts t = .next u ∧ u.regs = s.regs

/-! ## The bus, the stack and the OAM DMA -/

/-- Rule R27, and rules R28 and R29 (the spec's decisions D3 and D11): MemRead is one load; LoadWord is a load of
the low byte at `a`, then one of the high byte at `a + 1` modulo 65,536; MemWrite is one store, after which the OAM
DMA follows exactly if the address is its trigger. None changes anything else. -/
def Obligations.BusPrimitivesAreExactTransactions : Prop :=
  ∀ (a : Addr) (v : Byte) (s : State),
    let stored : State :=
      { s with bus := { s.bus with mem := s.bus.mem.write a.toNat v, trace := .store a v :: s.bus.trace } }
    memRead a s = (s.bus.answer a,
      { s with
        bus := { s.bus with answers := s.bus.answers.tail, trace := .load a (s.bus.answer a) :: s.bus.trace } }) ∧
    loadWord a s =
      (word (memRead (a + 1) (memRead a s).2).1 (memRead a s).1, (memRead (a + 1) (memRead a s).2).2) ∧
    loadWord 0xFFFF#16 s =
      (word (memRead 0x0000#16 (memRead 0xFFFF#16 s).2).1 (memRead 0xFFFF#16 s).1,
        (memRead 0x0000#16 (memRead 0xFFFF#16 s).2).2) ∧
    (a ≠ 0x4014#16 → memWrite a v s = stored) ∧ (a = 0x4014#16 → memWrite a v s = oamDma v stored)

/-- A bus that answers from memory gives back the last byte stored, at the address and nowhere else, and pulling
gives back the byte just pushed with SP as before (rules R35, R36 and R38, on the flat bus of log entry 1). -/
def Obligations.FlatMemoryGivesBackWhatWasStored : Prop :=
  ∀ (a e : Addr) (v : Byte) (s : State), s.bus.mem.wf = true → s.bus.answers = [] →
    (memRead a (s.setBus (s.bus.store a v))).1 = v ∧
    (e ≠ a → (memRead e (s.setBus (s.bus.store a v))).1 = (memRead e s).1) ∧
    (pull (push v s)).1 = v ∧ (pull (push v s)).2.regs = s.regs

/-- Rules R35 and R36 (the spec's decision D33): push stores at 0x01:SP and then decrements SP, pull increments SP
and then loads from 0x01:SP, both modulo 256 within the page, and nothing else changes. -/
def Obligations.StackPrimitives : Prop :=
  ∀ (v : Byte) (s : State),
    push v s =
      { s with regs := { s.regs with sp := s.regs.sp - 1 }, bus := s.bus.store (word 0x01#8 s.regs.sp) v } ∧
    pull s =
      ((s.bus.load (word 0x01#8 (s.regs.sp + 1))).1,
        { s with
          regs := { s.regs with sp := s.regs.sp + 1 }
          bus := (s.bus.load (word 0x01#8 (s.regs.sp + 1))).2 })

/-- Rule R37 (with the spec's decisions D11 and D30): the OAM DMA of page `v` is 256 loads from `v:0x00` to
`v:0xFF`, each followed by the store of its byte to 0x2004; it charges 513 cycles if `total_cycles + cyc` is even
and 514 if odd; on a bus that answers from memory each byte is the page's, for a page that does not hold 0x2004; no
other byte of memory and no register changes. -/
def Obligations.OamDmaCopiesThePage : Prop :=
  ∀ (v : Byte) (s : State),
    (oamDma v s).regs = s.regs ∧ (oamDma v s).totalCycles = s.totalCycles ∧ (oamDma v s).fault = s.fault ∧
    (oamDma v s).cyc = s.cyc + (if (s.totalCycles + s.cyc) % 2 = 0 then 513 else 514) ∧
    (oamDma v s).bus.answers = s.bus.answers.drop 256 ∧
    (∀ e : Addr, e ≠ 0x2004#16 → (oamDma v s).bus.mem.read e.toNat = s.bus.mem.read e.toNat) ∧
    ∃ ts : List Byte, ts.length = 256 ∧
      (oamDma v s).bus.trace = (dmaPairs v ts).reverse ++ s.bus.trace ∧
      (s.bus.mem.wf = true → (oamDma v s).bus.mem.read 0x2004 = ts.getD 255 0x00#8) ∧
      (s.bus.answers = [] → v ≠ 0x20#8 →
        ∀ i < 256, ts.getD i 0x00#8 = s.bus.mem.read (word v (BitVec.ofNat 8 i)).toNat)

/-! ## The address-mode resolver -/

/-- Rules R59 to R63: the immediate mode's address is that of the operand byte, the byte before PC; zero-page
indexing wraps within the zero page; none of these modes touches the bus or `cyc`. -/
def Obligations.ZeroPageAndAbsoluteModes : Prop :=
  ∀ (m z : Byte) (w : Addr) (s : State),
    resolve (.imm m) s = (s.regs.pc - 1, s) ∧
    resolve (.zp z) s = (word 0x00#8 z, s) ∧
    resolve (.zpX z) s = (word 0x00#8 (z + s.regs.x), s) ∧
    resolve (.zpY z) s = (word 0x00#8 (z + s.regs.y), s) ∧
    resolve (.abs w) s = (w, s)

/-- Rules R64 to R67 and R72: indexed absolute addresses wrap modulo 65,536, and only the read variants charge one
cycle, exactly when the high byte changes. -/
def Obligations.IndexedModesAndPenalty : Prop :=
  ∀ (w : Addr) (s : State),
    let penalised : Byte → State := fun index =>
      { s with cyc := s.cyc + (if hi (w + word 0x00#8 index) ≠ hi w then 1 else 0) }
    resolve (.absXRead w) s = (w + word 0x00#8 s.regs.x, penalised s.regs.x) ∧
    resolve (.absXWrite w) s = (w + word 0x00#8 s.regs.x, s) ∧
    resolve (.absYRead w) s = (w + word 0x00#8 s.regs.y, penalised s.regs.y) ∧
    resolve (.absYWrite w) s = (w + word 0x00#8 s.regs.y, s)

/-- Rules R68 to R71: the pointer modes read the pointer's low byte, then its high byte with the wrap within the
page; indirect indexed adds Y and charges the penalty in its read variant only. -/
def Obligations.PointerModes : Prop :=
  ∀ (z : Byte) (w : Addr) (s : State),
    let pair : Addr → Addr → Addr × State := fun p q =>
      (word (memRead q (memRead p s).2).1 (memRead p s).1, (memRead q (memRead p s).2).2)
    let zpair : Byte → Addr × State := fun p => pair (word 0x00#8 p) (word 0x00#8 (p + 1))
    let base := (zpair z).1
    let ea := base + word 0x00#8 s.regs.y
    let after := (zpair z).2
    resolve (.indirect w) s = pair w (word (hi w) (lo w + 1)) ∧
    resolve (.indX z) s = zpair (z + s.regs.x) ∧
    resolve (.indYWrite z) s = (ea, after) ∧
    resolve (.indYRead z) s = (ea, { after with cyc := after.cyc + (if hi ea ≠ hi base then 1 else 0) })

/-- Rules R57 and R58: resolving changes no register and no byte of memory; the three patterns are what R58 writes:
reading an operand is resolving and one load (the immediate byte is already fetched), writing one is resolving and
one store, and read-modify-write is resolving, one load and one store of the same address. (JMP, JSR, SHY and SHX
use the resolver directly, rules R117, R118, R150 and R151: their own result statements say how.) -/
def Obligations.ResolverAndItsPatterns : Prop :=
  ∀ (mode : Mode) (v : Byte) (f : Byte → Flags → Byte × Flags) (s : State),
    (resolve mode s).2.regs = s.regs ∧ (resolve mode s).2.bus.mem = s.bus.mem ∧
    (resolve mode s).2.totalCycles = s.totalCycles ∧ (resolve mode s).2.fault = s.fault ∧
    (∀ m, readOp (.imm m) s = (m, s)) ∧
    ((∀ m, mode ≠ .imm m) → readOp mode s = memRead (resolve mode s).1 (resolve mode s).2) ∧
    writeOp mode v s = memWrite (resolve mode s).1 v (resolve mode s).2 ∧
    rmwOp mode f s =
      ((f (memRead (resolve mode s).1 (resolve mode s).2).1 s.regs.p).1,
        afterRmw mode (fun b p => (f b p).1) (fun b g => { g with p := (f b g.p).2 }) s)

/-! ## Flags and arithmetic -/

/-- Rules R17, R19, R20 and R21: the packed bytes bit by bit, what a pulled byte writes, and SetZN. -/
def Obligations.StatusPacking : Prop :=
  ∀ (p : Flags) (v : Byte),
    ((List.range 8).map (packP p).getLsbD = [p.c, p.z, p.i, p.d, p.b, true, p.v, p.n]) ∧
    ((List.range 8).map (packPush p).getLsbD = [p.c, p.z, p.i, p.d, true, true, p.v, p.n]) ∧
    unpackPull v =
      { c := v.getLsbD 0, z := v.getLsbD 1, i := v.getLsbD 2, d := v.getLsbD 3, b := false
        v := v.getLsbD 6, n := v.getLsbD 7 } ∧
    packP (unpackPull v) = (v &&& 0xEF#8) ||| 0x20#8 ∧
    setZN v p = { p with z := decide (v = 0x00#8), n := v.getLsbD 7 }

/-- Rule R83: the sum modulo 256; C exactly when the 9-bit sum passes 0xFF; V exactly when the signed sum lies
outside -128 to 127; Z and N from the result; I, D and B unchanged, and D not read. -/
def Obligations.AddWithCarryIsTheSum : Prop :=
  ∀ (a m : Byte) (p : Flags),
    let s := a.toNat + m.toNat + p.c.toNat
    let signed := a.toInt + m.toInt + (p.c.toNat : Int)
    let q := addWithCarry a m p
    q.1.toNat = s % 256 ∧
    q.2 = { p with
      c := decide (s > 0xFF)
      v := decide (signed < -128 ∨ 127 < signed)
      z := decide (s % 256 = 0)
      n := decide (128 ≤ s % 256) } ∧
    (q.2.v = ((a ^^^ q.1) &&& (m ^^^ q.1) &&& 0x80#8 != 0x00#8))

/-- Rule R84: subtraction is addition of the complement, also of `m XOR 0xFF`; it computes A - m - (1 - C), C = 1
means no borrow, and V is the overflow of the signed difference. -/
def Obligations.SubtractWithCarryIsTheDifference : Prop :=
  ∀ (a m : Byte) (p : Flags),
    let q := subtractWithCarry a m p
    let borrow : Int := if p.c then 0 else 1
    q = addWithCarry a (~~~m) p ∧ q = addWithCarry a (m ^^^ 0xFF#8) p ∧
    (q.1.toNat : Int) = ((a.toNat : Int) - m.toNat - borrow) % 256 ∧
    q.2.c = decide ((m.toNat : Int) + borrow ≤ a.toNat) ∧
    q.2.v = decide (a.toInt - m.toInt - borrow < -128 ∨ 127 < a.toInt - m.toInt - borrow)

/-- Rule R85: C exactly when the register is at least the operand, unsigned; Z exactly when they are equal; N is bit
7 of the difference; nothing else changes. -/
def Obligations.CompareIsUnsigned : Prop :=
  ∀ (r m : Byte) (p : Flags),
    compareFlags r m p =
      { p with
        c := decide (m.toNat ≤ r.toNat)
        z := decide (r = m)
        n := decide (128 ≤ (r.toNat + (256 - m.toNat)) % 256) }

/-- Rules R95 and R96, as arithmetic on the byte and the carry: results, C, Z and N; every other flag unchanged. -/
def Obligations.ShifterAndIncrementer : Prop :=
  ∀ (v : Byte) (p : Flags),
    (shiftL v p).1.toNat = (2 * v.toNat) % 256 ∧
    (shiftL v p).2 = zn (shiftL v p).1 { p with c := decide (128 ≤ v.toNat) } ∧
    (shiftR v p).1.toNat = v.toNat / 2 ∧
    (shiftR v p).2 = zn (shiftR v p).1 { p with c := decide (v.toNat % 2 = 1) } ∧
    (rotL v p).1.toNat = (2 * v.toNat) % 256 + p.c.toNat ∧
    (rotL v p).2 = zn (rotL v p).1 { p with c := decide (128 ≤ v.toNat) } ∧
    (rotR v p).1.toNat = v.toNat / 2 + 128 * p.c.toNat ∧
    (rotR v p).2 = zn (rotR v p).1 { p with c := decide (v.toNat % 2 = 1) } ∧
    (incByte v p).1.toNat = (v.toNat + 1) % 256 ∧ (incByte v p).2 = zn (incByte v p).1 p ∧
    (decByte v p).1.toNat = (v.toNat + 255) % 256 ∧ (decByte v p).2 = zn (decByte v p).1 p

/-! ## Results of the instructions -/

/-- Rules R76, R77 and R78: LDA, LDX and LDY in every mode. -/
def Obligations.LoadResults : Prop :=
  ∀ (s : State) (m z : Byte) (w : Addr),
    (∀ r ∈ ldaRows m z w, r.Encoded ∧
      exec r.instr s = .next (afterRead r.mode (fun v g => { g with a := v, p := zn v g.p }) s)) ∧
    (∀ r ∈ ldxRows m z w, r.Encoded ∧
      exec r.instr s = .next (afterRead r.mode (fun v g => { g with x := v, p := zn v g.p }) s)) ∧
    (∀ r ∈ ldyRows m z w, r.Encoded ∧
      exec r.instr s = .next (afterRead r.mode (fun v g => { g with y := v, p := zn v g.p }) s))

/-- Rules R79, R80 and R81: STA, STX and STY in every mode; no register and no flag changes. -/
def Obligations.StoreResults : Prop :=
  ∀ (s : State) (m z : Byte) (w : Addr),
    (∀ r ∈ staRows m z w, r.Encoded ∧ exec r.instr s = .next (afterStore r.mode s.regs.a s)) ∧
    (∀ r ∈ stxRows m z w, r.Encoded ∧ exec r.instr s = .next (afterStore r.mode s.regs.x s)) ∧
    (∀ r ∈ styRows m z w, r.Encoded ∧ exec r.instr s = .next (afterStore r.mode s.regs.y s))

/-- Rules R86 and R87: ADC and SBC in every mode. -/
def Obligations.AddSubtractResults : Prop :=
  ∀ (s : State) (m z : Byte) (w : Addr),
    (∀ r ∈ adcRows m z w, r.Encoded ∧
      exec r.instr s = .next (afterRead r.mode (fun v g =>
        { g with a := (addWithCarry g.a v g.p).1, p := (addWithCarry g.a v g.p).2 }) s)) ∧
    (∀ r ∈ sbcRows m z w, r.Encoded ∧
      exec r.instr s = .next (afterRead r.mode (fun v g =>
        { g with a := (addWithCarry g.a (~~~v) g.p).1, p := (addWithCarry g.a (~~~v) g.p).2 }) s))

/-- Rules R88, R89 and R90: AND, ORA and EOR in every mode. -/
def Obligations.LogicResults : Prop :=
  ∀ (s : State) (m z : Byte) (w : Addr),
    (∀ r ∈ andRows m z w, r.Encoded ∧
      exec r.instr s = .next (afterRead r.mode (fun v g => { g with a := g.a &&& v, p := zn (g.a &&& v) g.p }) s)) ∧
    (∀ r ∈ oraRows m z w, r.Encoded ∧
      exec r.instr s = .next (afterRead r.mode (fun v g => { g with a := g.a ||| v, p := zn (g.a ||| v) g.p }) s)) ∧
    (∀ r ∈ eorRows m z w, r.Encoded ∧
      exec r.instr s = .next (afterRead r.mode (fun v g => { g with a := g.a ^^^ v, p := zn (g.a ^^^ v) g.p }) s))

/-- Rules R91 to R94: BIT, CMP, CPX and CPY in every mode; only flags change. -/
def Obligations.BitAndCompareResults : Prop :=
  ∀ (s : State) (m z : Byte) (w : Addr),
    (∀ r ∈ bitRows m z w, r.Encoded ∧
      exec r.instr s = .next (afterRead r.mode (fun v g =>
        { g with p := { g.p with z := decide (g.a &&& v = 0x00#8), v := v.getLsbD 6, n := v.getLsbD 7 } }) s)) ∧
    (∀ r ∈ cmpRows m z w, r.Encoded ∧
      exec r.instr s = .next (afterRead r.mode (fun v g => { g with p := compareFlags g.a v g.p }) s)) ∧
    (∀ r ∈ cpxRows m z w, r.Encoded ∧
      exec r.instr s = .next (afterRead r.mode (fun v g => { g with p := compareFlags g.x v g.p }) s)) ∧
    (∀ r ∈ cpyRows m z w, r.Encoded ∧
      exec r.instr s = .next (afterRead r.mode (fun v g => { g with p := compareFlags g.y v g.p }) s))

/-- Rules R97 to R100: ASL, LSR, ROL and ROR of A and of memory. -/
def Obligations.ShiftResults : Prop :=
  ∀ (s : State) (m z : Byte) (w : Addr),
    let memory : List Row → (Byte → Flags → Byte × Flags) → Prop := fun rows f =>
      ∀ r ∈ rows, r.Encoded ∧
        exec r.instr s = .next (afterRmw r.mode (fun v p => (f v p).1) (fun v g => { g with p := (f v g.p).2 }) s)
    let accumulator : Instr → (Byte → Flags → Byte × Flags) → Prop := fun i f =>
      exec i s = .next (withRegs (fun g => { g with a := (f g.a g.p).1, p := (f g.a g.p).2 }) s)
    (memory (aslRows m z w) shiftL ∧ OneByte .aslA 0x0A#8 2 ∧ accumulator .aslA shiftL) ∧
    (memory (lsrRows m z w) shiftR ∧ OneByte .lsrA 0x4A#8 2 ∧ accumulator .lsrA shiftR) ∧
    (memory (rolRows m z w) rotL ∧ OneByte .rolA 0x2A#8 2 ∧ accumulator .rolA rotL) ∧
    (memory (rorRows m z w) rotR ∧ OneByte .rorA 0x6A#8 2 ∧ accumulator .rorA rotR)

/-- Rules R101 to R106: INC and DEC in every mode, INX, INY, DEX and DEY; only Z and N among the flags. -/
def Obligations.IncrementDecrementResults : Prop :=
  ∀ (s : State) (m z : Byte) (w : Addr),
    (∀ r ∈ incRows m z w, r.Encoded ∧
      exec r.instr s = .next (afterRmw r.mode (fun v _ => v + 1) (fun v g => { g with p := zn (v + 1) g.p }) s)) ∧
    (∀ r ∈ decRows m z w, r.Encoded ∧
      exec r.instr s = .next (afterRmw r.mode (fun v _ => v - 1) (fun v g => { g with p := zn (v - 1) g.p }) s)) ∧
    (OneByte .inx 0xE8#8 2 ∧ exec .inx s = .next (withRegs (fun g => { g with x := g.x + 1, p := zn (g.x + 1) g.p }) s)) ∧
    (OneByte .iny 0xC8#8 2 ∧ exec .iny s = .next (withRegs (fun g => { g with y := g.y + 1, p := zn (g.y + 1) g.p }) s)) ∧
    (OneByte .dex 0xCA#8 2 ∧ exec .dex s = .next (withRegs (fun g => { g with x := g.x - 1, p := zn (g.x - 1) g.p }) s)) ∧
    (OneByte .dey 0x88#8 2 ∧ exec .dey s = .next (withRegs (fun g => { g with y := g.y - 1, p := zn (g.y - 1) g.p }) s))

/-- Rules R108 to R116 (the page compared is the spec's decision D10): the eight branches. PC is already past the
displacement; a taken branch adds it, sign-extended, and costs one cycle more, two if the target's page is not that
of the next instruction; an untaken one changes nothing. Rule R118 (its order is the spec's decision D19): JSR
pushes PC - 1, high byte then low, and jumps. No flag changes. -/
def Obligations.BranchAndCallResults : Prop :=
  ∀ (s : State) (d : Byte) (w : Addr),
    let t := s.regs.pc + d.signExtend 16
    let taken : State :=
      { s with
        regs := { s.regs with pc := t }
        cyc := s.cyc + (if hi t ≠ hi s.regs.pc then 2 else 1) }
    (∀ r ∈ [(Instr.bpl d, 0x10#8, !s.regs.p.n), (Instr.bmi d, 0x30#8, s.regs.p.n), (Instr.bvc d, 0x50#8, !s.regs.p.v),
        (Instr.bvs d, 0x70#8, s.regs.p.v), (Instr.bcc d, 0x90#8, !s.regs.p.c), (Instr.bcs d, 0xB0#8, s.regs.p.c),
        (Instr.bne d, 0xD0#8, !s.regs.p.z), (Instr.beq d, 0xF0#8, s.regs.p.z)],
      encode r.1 = [r.2.1, d] ∧ baseCycles r.2.1 = 2 ∧ exec r.1 s = .next (if r.2.2 then taken else s)) ∧
    (encode (.jsr w) = [0x20#8, lo w, hi w] ∧ baseCycles 0x20#8 = 6 ∧
      exec (.jsr w) s =
        .next
          { s with
            regs := { s.regs with pc := w, sp := s.regs.sp - 2 }
            bus :=
              (s.bus.store (word 0x01#8 s.regs.sp) (hi (s.regs.pc - 1))).store (word 0x01#8 (s.regs.sp - 1))
                (lo (s.regs.pc - 1)) })

/-- Conflict C2: the two readings of BRANCH_PAGE_BASIS give the same cost unless the branch's opcode stands at an
address ending in 0xFE or 0xFF. -/
def Obligations.BranchPageBasesAgree : Prop :=
  ∀ opcodeAddr target : Addr, lo opcodeAddr ≠ 0xFE#8 → lo opcodeAddr ≠ 0xFF#8 →
    branchPageCycles .opcodeAddress (opcodeAddr + 2) target = branchPageCycles .nextInstruction (opcodeAddr + 2) target

/-- Rules R117 and R119: JMP in both modes, and RTS; no flag changes. -/
def Obligations.JumpAndReturnResults : Prop :=
  ∀ (s : State) (m z : Byte) (w : Addr),
    (∀ r ∈ jmpRows m z w, r.Encoded ∧
      exec r.instr s =
        .next { (resolve r.mode s).2 with regs := { s.regs with pc := (resolve r.mode s).1 } }) ∧
    (OneByte .rts 0x60#8 6 ∧
      let l := s.bus.load (word 0x01#8 (s.regs.sp + 1))
      let h := l.2.load (word 0x01#8 (s.regs.sp + 2))
      exec .rts s = .next { s with regs := { s.regs with pc := word h.1 l.1 + 1, sp := s.regs.sp + 2 }, bus := h.2 })

/-- Rules R120 to R123: PHA, PHP, PLA and PLP. Rule R160: RTI pulls P (B becoming 0), then PC low and high, adding
nothing. -/
def Obligations.StackAndRtiResults : Prop :=
  ∀ s : State,
    let pushed : Byte → State := fun v =>
      { s with regs := { s.regs with sp := s.regs.sp - 1 }, bus := s.bus.store (word 0x01#8 s.regs.sp) v }
    let l := s.bus.load (word 0x01#8 (s.regs.sp + 1))
    (OneByte .pha 0x48#8 3 ∧ exec .pha s = .next (pushed s.regs.a)) ∧
    (OneByte .php 0x08#8 3 ∧ exec .php s = .next (pushed (packP s.regs.p ||| 0x10#8))) ∧
    (OneByte .pla 0x68#8 4 ∧
      exec .pla s =
        .next { s with regs := { s.regs with a := l.1, sp := s.regs.sp + 1, p := zn l.1 s.regs.p }, bus := l.2 }) ∧
    (OneByte .plp 0x28#8 4 ∧
      exec .plp s = .next { s with regs := { s.regs with sp := s.regs.sp + 1, p := unpackPull l.1 }, bus := l.2 }) ∧
    (OneByte .rti 0x40#8 6 ∧
      let p := s.bus.load (word 0x01#8 (s.regs.sp + 1))
      let l := p.2.load (word 0x01#8 (s.regs.sp + 2))
      let h := l.2.load (word 0x01#8 (s.regs.sp + 3))
      exec .rti s =
        .next
          { s with
            regs := { s.regs with sp := s.regs.sp + 3, pc := word h.1 l.1, p := unpackPull p.1 }
            bus := h.2 })

/-- Rules R124 to R129: the transfers; TXS writes no flag. -/
def Obligations.TransferResults : Prop :=
  ∀ s : State,
    (OneByte .tax 0xAA#8 2 ∧ exec .tax s = .next (withRegs (fun g => { g with x := g.a, p := zn g.a g.p }) s)) ∧
    (OneByte .tay 0xA8#8 2 ∧ exec .tay s = .next (withRegs (fun g => { g with y := g.a, p := zn g.a g.p }) s)) ∧
    (OneByte .txa 0x8A#8 2 ∧ exec .txa s = .next (withRegs (fun g => { g with a := g.x, p := zn g.x g.p }) s)) ∧
    (OneByte .tya 0x98#8 2 ∧ exec .tya s = .next (withRegs (fun g => { g with a := g.y, p := zn g.y g.p }) s)) ∧
    (OneByte .tsx 0xBA#8 2 ∧ exec .tsx s = .next (withRegs (fun g => { g with x := g.sp, p := zn g.sp g.p }) s)) ∧
    (OneByte .txs 0x9A#8 2 ∧ exec .txs s = .next (withRegs (fun g => { g with sp := g.x }) s))

/-- Rules R130 to R136: each flag instruction writes its one flag and nothing else. -/
def Obligations.FlagInstructionResults : Prop :=
  ∀ s : State,
    (OneByte .clc 0x18#8 2 ∧ exec .clc s = .next (withRegs (fun g => { g with p := { g.p with c := false } }) s)) ∧
    (OneByte .sec 0x38#8 2 ∧ exec .sec s = .next (withRegs (fun g => { g with p := { g.p with c := true } }) s)) ∧
    (OneByte .cli 0x58#8 2 ∧ exec .cli s = .next (withRegs (fun g => { g with p := { g.p with i := false } }) s)) ∧
    (OneByte .sei 0x78#8 2 ∧ exec .sei s = .next (withRegs (fun g => { g with p := { g.p with i := true } }) s)) ∧
    (OneByte .cld 0xD8#8 2 ∧ exec .cld s = .next (withRegs (fun g => { g with p := { g.p with d := false } }) s)) ∧
    (OneByte .sed 0xF8#8 2 ∧ exec .sed s = .next (withRegs (fun g => { g with p := { g.p with d := true } }) s)) ∧
    (OneByte .clv 0xB8#8 2 ∧ exec .clv s = .next (withRegs (fun g => { g with p := { g.p with v := false } }) s))

/-- Rule R137, and rule R139 (its loads are the spec's decision D8): the documented NOP and the one-byte
undocumented ones change nothing; every other NOP reads its operand as its mode says, the page-cross charge
included, and discards it. -/
def Obligations.NoOperationResults : Prop :=
  ∀ (s : State) (m z : Byte) (w : Addr),
    (OneByte .nop 0xEA#8 2 ∧ exec .nop s = .next s) ∧
    (OneByte .nop1A 0x1A#8 2 ∧ exec .nop1A s = .next s) ∧ (OneByte .nop3A 0x3A#8 2 ∧ exec .nop3A s = .next s) ∧
    (OneByte .nop5A 0x5A#8 2 ∧ exec .nop5A s = .next s) ∧ (OneByte .nop7A 0x7A#8 2 ∧ exec .nop7A s = .next s) ∧
    (OneByte .nopDA 0xDA#8 2 ∧ exec .nopDA s = .next s) ∧ (OneByte .nopFA 0xFA#8 2 ∧ exec .nopFA s = .next s) ∧
    (∀ r ∈ nopRows m z w, r.Encoded ∧ exec r.instr s = .next (afterRead r.mode (fun _ g => g) s))

/-- Rules R143, R144 and R145: SLO, RLA and SRE in every mode: the shift's result is stored and its C kept, then the
logic operation on A writes A, Z and N. -/
def Obligations.ShiftLogicCombinations : Prop :=
  ∀ (s : State) (m z : Byte) (w : Addr),
    let combined : List Row → (Byte → Flags → Byte × Flags) → (Byte → Byte → Byte) → Prop := fun rows f logic =>
      ∀ r ∈ rows, r.Encoded ∧
        exec r.instr s = .next (afterRmw r.mode (fun v p => (f v p).1) (fun v g =>
          { g with a := logic g.a (f v g.p).1, p := zn (logic g.a (f v g.p).1) (f v g.p).2 }) s)
    combined (sloRows m z w) shiftL (fun a r => a ||| r) ∧
    combined (rlaRows m z w) rotL (fun a r => a &&& r) ∧
    combined (sreRows m z w) shiftR (fun a r => a ^^^ r)

/-- Rules R146, R147 and R148: RRA, DCP and ISB in every mode: rotate then add with the carry it left, decrement
then compare, increment then subtract; a flag written by both ends with the second's value. -/
def Obligations.ArithmeticCombinations : Prop :=
  ∀ (s : State) (m z : Byte) (w : Addr),
    (∀ r ∈ rraRows m z w, r.Encoded ∧
      exec r.instr s = .next (afterRmw r.mode (fun v p => (rotR v p).1) (fun v g =>
        let q := addWithCarry g.a (rotR v g.p).1 (rotR v g.p).2
        { g with a := q.1, p := q.2 }) s)) ∧
    (∀ r ∈ dcpRows m z w, r.Encoded ∧
      exec r.instr s = .next (afterRmw r.mode (fun v _ => v - 1) (fun v g =>
        { g with p := compareFlags g.a (v - 1) (zn (v - 1) g.p) }) s)) ∧
    (∀ r ∈ isbRows m z w, r.Encoded ∧
      exec r.instr s = .next (afterRmw r.mode (fun v _ => v + 1) (fun v g =>
        let q := addWithCarry g.a (~~~(v + 1)) (zn (v + 1) g.p)
        { g with a := q.1, p := q.2 }) s))

/-- Rules R140, R141, R142 and R149 (the spec's decisions D7 and D32): LAX loads A and X, SAX stores A AND X and
changes no register, 0xEB behaves exactly as SBC immediate, ANC ands and copies bit 7 of the result to C.  Rules
R150 and R151 (their formula is the spec's decision D29): SHY and SHX store the register AND the base's high byte
plus one at the indexed address, whose high byte that value replaces on a page cross; no register and no flag
changes. -/
def Obligations.UndocumentedLoadStoreResults : Prop :=
  ∀ (s : State) (m z : Byte) (w : Addr),
    let masked : Byte → Byte → State := fun reg index =>
      let ea := w + word 0x00#8 index
      let v := reg &&& (hi w + 1)
      memWrite (if hi ea ≠ hi w then word v (lo ea) else ea) v s
    (∀ r ∈ laxRows m z w, r.Encoded ∧
      exec r.instr s = .next (afterRead r.mode (fun v g => { g with a := v, x := v, p := zn v g.p }) s)) ∧
    (∀ r ∈ saxRows m z w, r.Encoded ∧ exec r.instr s = .next (afterStore r.mode (s.regs.a &&& s.regs.x) s)) ∧
    (∀ r ∈ sbcEBRows m z w, r.Encoded ∧
      exec r.instr s = .next (afterRead r.mode (fun v g =>
        { g with a := (addWithCarry g.a (~~~v) g.p).1, p := (addWithCarry g.a (~~~v) g.p).2 }) s) ∧
      exec r.instr s = exec (.sbcImm m) s) ∧
    (∀ r ∈ ancRows m z w, r.Encoded ∧
      exec r.instr s = .next (afterRead r.mode (fun v g =>
        { g with a := g.a &&& v, p := { zn (g.a &&& v) g.p with c := (g.a &&& v).getLsbD 7 } }) s)) ∧
    (∀ r ∈ shyRows m z w, r.Encoded ∧ exec r.instr s = .next (masked s.regs.y s.regs.x)) ∧
    (∀ r ∈ shxRows m z w, r.Encoded ∧ exec r.instr s = .next (masked s.regs.x s.regs.y)) ∧
    (masked s.regs.y s.regs.x).regs = s.regs ∧ (masked s.regs.x s.regs.y).regs = s.regs

/-- Rule R159 (with the spec's decisions D20 and D30): BRK skips its padding byte unread and enters through 0xFFFE
with bits 4 and 5 of the pushed byte set and I set after the push, whatever I was. -/
def Obligations.BrkEntry : Prop :=
  ∀ s : State,
    encode .brk = [0x00#8] ∧ baseCycles 0x00#8 = 7 ∧
      exec .brk s = .next (entered 0xFFFE#16 (packP s.regs.p ||| 0x10#8) true (s.regs.pc + 1) s)

/-! ## Promises about every instruction -/

/-- Rules R44, R52 and R152: every admitted instruction, in every state, completes, and completing neither faults
the core nor touches the running total. -/
def Obligations.EveryAdmittedInstructionCompletes : Prop :=
  ∀ (i : Instr) (s : State), i.wellFormed = true →
    ∃ t, exec i s = .next t ∧ t.fault = s.fault ∧ t.totalCycles = s.totalCycles ∧ s.cyc ≤ t.cyc

/-- Rules R7, R8 and R107: the instructions that write A, X, Y, SP and PC (beyond the fetch); every other leaves
that register unchanged. -/
def Obligations.RegistersWrittenOnlyBy : Prop :=
  ∀ (i : Instr) (s t : State), exec i s = .next t →
    (mnemonic i ∉ [.lda, .pla, .txa, .tya, .adc, .sbc, .and, .ora, .eor, .lax, .slo, .rla, .sre, .rra, .isb, .anc] →
      i ∉ [.aslA, .lsrA, .rolA, .rorA] → t.regs.a = s.regs.a) ∧
    (mnemonic i ∉ [.ldx, .tax, .tsx, .inx, .dex, .lax] → t.regs.x = s.regs.x) ∧
    (mnemonic i ∉ [.ldy, .tay, .iny, .dey] → t.regs.y = s.regs.y) ∧
    (mnemonic i ∉ [.txs, .pha, .php, .pla, .plp, .jsr, .rts, .brk, .rti] → t.regs.sp = s.regs.sp) ∧
    (mnemonic i ∉ [.bpl, .bmi, .bvc, .bvs, .bcc, .bcs, .bne, .beq, .jmp, .jsr, .rts, .brk, .rti] →
      t.regs.pc = s.regs.pc)

/-- Rules R11 to R16 and R18: the instructions that write each flag; every other leaves it unchanged. -/
def Obligations.FlagsWrittenOnlyBy : Prop :=
  ∀ (i : Instr) (s t : State), exec i s = .next t →
    let zeroWriters : List Mnemonic :=
      [.lda, .ldx, .ldy, .lax, .tax, .tay, .txa, .tya, .tsx, .and, .ora, .eor, .adc, .sbc, .cmp, .cpx, .cpy, .asl,
        .lsr, .rol, .ror, .inc, .dec, .inx, .iny, .dex, .dey, .pla, .slo, .rla, .sre, .rra, .dcp, .isb, .anc, .bit,
        .plp, .rti]
    (mnemonic i ∉ [.adc, .sbc, .cmp, .cpx, .cpy, .asl, .lsr, .rol, .ror, .slo, .rla, .sre, .rra, .dcp, .isb, .anc,
        .clc, .sec, .plp, .rti] → t.regs.p.c = s.regs.p.c) ∧
    (mnemonic i ∉ zeroWriters → t.regs.p.z = s.regs.p.z ∧ t.regs.p.n = s.regs.p.n) ∧
    (mnemonic i ∉ [.cli, .sei, .plp, .rti, .brk] → t.regs.p.i = s.regs.p.i) ∧
    (mnemonic i ∉ [.cld, .sed, .plp, .rti] → t.regs.p.d = s.regs.p.d) ∧
    (mnemonic i ∉ [.adc, .sbc, .rra, .isb, .bit, .clv, .plp, .rti] → t.regs.p.v = s.regs.p.v) ∧
    (mnemonic i ∉ [.plp, .rti] → t.regs.p.b = s.regs.p.b)

/-- Rules R32, R33 and R28: an instruction changes no byte of memory but those at the addresses it stores to, and
OAM_DATA_ADDR where one of them is the DMA trigger; one with no such address changes no byte. -/
def Obligations.MemoryWrittenOnlyAtTargets : Prop :=
  ∀ (i : Instr) (s t : State), exec i s = .next t →
    ∀ a : Addr, a ∉ storedAddrs i s → t.bus.mem.read a.toNat = s.bus.mem.read a.toNat

/-- Rule R14: D is read only by pushes of P. An admitted instruction that neither pushes P nor writes D does the
same with D clear and with D set, D itself apart. -/
def Obligations.DecimalFlagAffectsNothing : Prop :=
  ∀ (i : Instr) (s : State) (d : Bool), i.wellFormed = true →
    mnemonic i ∉ [.php, .brk, .cld, .sed, .plp, .rti] →
    exec i (withD d s) = mapNext (withD d) (exec i s)
end

