-- ==== Sys2Proof/Laws/Memory.lean ====
section
/-! SUPPORT. The laws of flat memory: reading after a write, and that a write keeps the canonical form. -/

namespace Sys2Proof.Machine

@[simp] theorem Memory.read_nil (a : Nat) : Memory.read [] a = Memory.unlisted := rfl

theorem Memory.wfFrom_cons (k b : Nat) (w : Byte) (m : Memory) :
    Memory.wfFrom k ((b, w) :: m) = true ↔
      k ≤ b ∧ b < 65536 ∧ w ≠ Memory.unlisted ∧ Memory.wfFrom (b + 1) m = true := by
  simp [Memory.wfFrom, and_assoc]

/-- A lower bound may be lowered. -/
theorem Memory.wfFrom_mono {j k : Nat} (h : j ≤ k) {m : Memory} (hm : Memory.wfFrom k m = true) :
    Memory.wfFrom j m = true := by
  cases m with
  | nil => rfl
  | cons c m =>
    obtain ⟨b, w⟩ := c
    rw [Memory.wfFrom_cons] at hm ⊢
    exact ⟨by omega, hm.2⟩

/-- An address below every listed one is not listed. -/
theorem Memory.read_below {k a : Nat} (h : a < k) {m : Memory} (hm : Memory.wfFrom k m = true) :
    Memory.read m a = Memory.unlisted := by
  induction m generalizing k with
  | nil => rfl
  | cons c m ih =>
    obtain ⟨b, w⟩ := c
    rw [Memory.wfFrom_cons] at hm
    have hab : a ≠ b := by omega
    simp only [Memory.read, hab, if_false]
    exact ih (by omega) hm.2.2.2

/-- A write leaves every other address alone, in any memory. -/
theorem Memory.read_write_other {a b : Nat} (h : a ≠ b) (m : Memory) (v : Byte) :
    Memory.read (Memory.write m b v) a = Memory.read m a := by
  induction m with
  | nil =>
    by_cases hv : v = Memory.unlisted <;> simp [Memory.write, Memory.read, hv, h]
  | cons c m ih =>
    obtain ⟨e, w⟩ := c
    unfold Memory.write
    split
    · split <;> simp [Memory.read, h]
    · split
      · rename_i _ he
        subst he
        split <;> simp [Memory.read, h]
      · by_cases hae : a = e <;> simp [Memory.read, hae, ih]

/-- A write keeps the canonical form. -/
theorem Memory.wfFrom_write {k a : Nat} (hk : k ≤ a) (ha : a < 65536) (v : Byte) {m : Memory}
    (hm : Memory.wfFrom k m = true) : Memory.wfFrom k (Memory.write m a v) = true := by
  induction m generalizing k with
  | nil =>
    unfold Memory.write
    split
    · rfl
    · rename_i hv
      rw [Memory.wfFrom_cons]
      exact ⟨hk, ha, hv, rfl⟩
  | cons c m ih =>
    obtain ⟨b, w⟩ := c
    have h := (Memory.wfFrom_cons k b w m).1 hm
    unfold Memory.write
    split
    · split
      · exact hm
      · rename_i hab hv
        rw [Memory.wfFrom_cons, Memory.wfFrom_cons]
        exact ⟨hk, ha, hv, by omega, h.2⟩
    · split
      · rename_i _ hab
        subst hab
        split
        · exact Memory.wfFrom_mono (by omega) h.2.2.2
        · rename_i hv
          rw [Memory.wfFrom_cons]
          exact ⟨h.1, ha, hv, h.2.2.2⟩
      · rw [Memory.wfFrom_cons]
        exact ⟨h.1, h.2.1, h.2.2.1, ih (by omega) h.2.2.2⟩

theorem Memory.wf_write {m : Memory} (hm : m.wf = true) (a : Addr) (v : Byte) :
    (m.write a.toNat v).wf = true :=
  Memory.wfFrom_write (Nat.zero_le _) a.isLt v hm

/-- In a canonical memory a write is read back. -/
theorem Memory.read_write_same {k : Nat} {m : Memory} (hm : Memory.wfFrom k m = true) (a : Nat) (v : Byte) :
    Memory.read (Memory.write m a v) a = v := by
  induction m generalizing k with
  | nil => by_cases hv : v = Memory.unlisted <;> simp [Memory.write, Memory.read, hv]
  | cons c m ih =>
    obtain ⟨b, w⟩ := c
    have h := (Memory.wfFrom_cons k b w m).1 hm
    unfold Memory.write
    split
    · rename_i hab
      split
      · rename_i hv
        rw [hv]
        exact Memory.read_below (k := b) hab
          ((Memory.wfFrom_cons b b w m).2 ⟨le_refl b, h.2⟩)
      · simp [Memory.read]
    · split
      · rename_i _ hab
        subst hab
        split
        · rename_i hv
          rw [hv]
          exact Memory.read_below (Nat.lt_succ_self _) h.2.2.2
        · simp [Memory.read]
      · rename_i _ hab
        simp only [Memory.read, hab, if_false]
        exact ih h.2.2.2

end Sys2Proof.Machine
end

