-- ==== Sys2Proof/Laws/State.lean ====
section
/-! SUPPORT. What each named update of State leaves in each field: one lemma per field per update. -/

namespace Sys2Proof.Machine.State

variable (s : State)

@[simp] theorem setA_a (v : Byte) : (s.setA v).regs.a = v := rfl
@[simp] theorem setA_x (v : Byte) : (s.setA v).regs.x = s.regs.x := rfl
@[simp] theorem setA_y (v : Byte) : (s.setA v).regs.y = s.regs.y := rfl
@[simp] theorem setA_sp (v : Byte) : (s.setA v).regs.sp = s.regs.sp := rfl
@[simp] theorem setA_pc (v : Byte) : (s.setA v).regs.pc = s.regs.pc := rfl
@[simp] theorem setA_p (v : Byte) : (s.setA v).regs.p = s.regs.p := rfl
@[simp] theorem setA_cyc (v : Byte) : (s.setA v).cyc = s.cyc := rfl
@[simp] theorem setA_totalCycles (v : Byte) : (s.setA v).totalCycles = s.totalCycles := rfl
@[simp] theorem setA_fault (v : Byte) : (s.setA v).fault = s.fault := rfl
@[simp] theorem setA_bus (v : Byte) : (s.setA v).bus = s.bus := rfl

@[simp] theorem setX_a (v : Byte) : (s.setX v).regs.a = s.regs.a := rfl
@[simp] theorem setX_x (v : Byte) : (s.setX v).regs.x = v := rfl
@[simp] theorem setX_y (v : Byte) : (s.setX v).regs.y = s.regs.y := rfl
@[simp] theorem setX_sp (v : Byte) : (s.setX v).regs.sp = s.regs.sp := rfl
@[simp] theorem setX_pc (v : Byte) : (s.setX v).regs.pc = s.regs.pc := rfl
@[simp] theorem setX_p (v : Byte) : (s.setX v).regs.p = s.regs.p := rfl
@[simp] theorem setX_cyc (v : Byte) : (s.setX v).cyc = s.cyc := rfl
@[simp] theorem setX_totalCycles (v : Byte) : (s.setX v).totalCycles = s.totalCycles := rfl
@[simp] theorem setX_fault (v : Byte) : (s.setX v).fault = s.fault := rfl
@[simp] theorem setX_bus (v : Byte) : (s.setX v).bus = s.bus := rfl

@[simp] theorem setY_a (v : Byte) : (s.setY v).regs.a = s.regs.a := rfl
@[simp] theorem setY_x (v : Byte) : (s.setY v).regs.x = s.regs.x := rfl
@[simp] theorem setY_y (v : Byte) : (s.setY v).regs.y = v := rfl
@[simp] theorem setY_sp (v : Byte) : (s.setY v).regs.sp = s.regs.sp := rfl
@[simp] theorem setY_pc (v : Byte) : (s.setY v).regs.pc = s.regs.pc := rfl
@[simp] theorem setY_p (v : Byte) : (s.setY v).regs.p = s.regs.p := rfl
@[simp] theorem setY_cyc (v : Byte) : (s.setY v).cyc = s.cyc := rfl
@[simp] theorem setY_totalCycles (v : Byte) : (s.setY v).totalCycles = s.totalCycles := rfl
@[simp] theorem setY_fault (v : Byte) : (s.setY v).fault = s.fault := rfl
@[simp] theorem setY_bus (v : Byte) : (s.setY v).bus = s.bus := rfl

@[simp] theorem setSp_a (v : Byte) : (s.setSp v).regs.a = s.regs.a := rfl
@[simp] theorem setSp_x (v : Byte) : (s.setSp v).regs.x = s.regs.x := rfl
@[simp] theorem setSp_y (v : Byte) : (s.setSp v).regs.y = s.regs.y := rfl
@[simp] theorem setSp_sp (v : Byte) : (s.setSp v).regs.sp = v := rfl
@[simp] theorem setSp_pc (v : Byte) : (s.setSp v).regs.pc = s.regs.pc := rfl
@[simp] theorem setSp_p (v : Byte) : (s.setSp v).regs.p = s.regs.p := rfl
@[simp] theorem setSp_cyc (v : Byte) : (s.setSp v).cyc = s.cyc := rfl
@[simp] theorem setSp_totalCycles (v : Byte) : (s.setSp v).totalCycles = s.totalCycles := rfl
@[simp] theorem setSp_fault (v : Byte) : (s.setSp v).fault = s.fault := rfl
@[simp] theorem setSp_bus (v : Byte) : (s.setSp v).bus = s.bus := rfl

@[simp] theorem setPc_a (v : Addr) : (s.setPc v).regs.a = s.regs.a := rfl
@[simp] theorem setPc_x (v : Addr) : (s.setPc v).regs.x = s.regs.x := rfl
@[simp] theorem setPc_y (v : Addr) : (s.setPc v).regs.y = s.regs.y := rfl
@[simp] theorem setPc_sp (v : Addr) : (s.setPc v).regs.sp = s.regs.sp := rfl
@[simp] theorem setPc_pc (v : Addr) : (s.setPc v).regs.pc = v := rfl
@[simp] theorem setPc_p (v : Addr) : (s.setPc v).regs.p = s.regs.p := rfl
@[simp] theorem setPc_cyc (v : Addr) : (s.setPc v).cyc = s.cyc := rfl
@[simp] theorem setPc_totalCycles (v : Addr) : (s.setPc v).totalCycles = s.totalCycles := rfl
@[simp] theorem setPc_fault (v : Addr) : (s.setPc v).fault = s.fault := rfl
@[simp] theorem setPc_bus (v : Addr) : (s.setPc v).bus = s.bus := rfl

@[simp] theorem setP_a (v : Flags) : (s.setP v).regs.a = s.regs.a := rfl
@[simp] theorem setP_x (v : Flags) : (s.setP v).regs.x = s.regs.x := rfl
@[simp] theorem setP_y (v : Flags) : (s.setP v).regs.y = s.regs.y := rfl
@[simp] theorem setP_sp (v : Flags) : (s.setP v).regs.sp = s.regs.sp := rfl
@[simp] theorem setP_pc (v : Flags) : (s.setP v).regs.pc = s.regs.pc := rfl
@[simp] theorem setP_p (v : Flags) : (s.setP v).regs.p = v := rfl
@[simp] theorem setP_cyc (v : Flags) : (s.setP v).cyc = s.cyc := rfl
@[simp] theorem setP_totalCycles (v : Flags) : (s.setP v).totalCycles = s.totalCycles := rfl
@[simp] theorem setP_fault (v : Flags) : (s.setP v).fault = s.fault := rfl
@[simp] theorem setP_bus (v : Flags) : (s.setP v).bus = s.bus := rfl

@[simp] theorem setRegs_regs (v : Regs) : (s.setRegs v).regs = v := rfl
@[simp] theorem setRegs_cyc (v : Regs) : (s.setRegs v).cyc = s.cyc := rfl
@[simp] theorem setRegs_totalCycles (v : Regs) : (s.setRegs v).totalCycles = s.totalCycles := rfl
@[simp] theorem setRegs_fault (v : Regs) : (s.setRegs v).fault = s.fault := rfl
@[simp] theorem setRegs_bus (v : Regs) : (s.setRegs v).bus = s.bus := rfl

@[simp] theorem setCyc_regs (v : Nat) : (s.setCyc v).regs = s.regs := rfl
@[simp] theorem setCyc_cyc (v : Nat) : (s.setCyc v).cyc = v := rfl
@[simp] theorem setCyc_totalCycles (v : Nat) : (s.setCyc v).totalCycles = s.totalCycles := rfl
@[simp] theorem setCyc_fault (v : Nat) : (s.setCyc v).fault = s.fault := rfl
@[simp] theorem setCyc_bus (v : Nat) : (s.setCyc v).bus = s.bus := rfl

@[simp] theorem addCyc_regs (v : Nat) : (s.addCyc v).regs = s.regs := rfl
@[simp] theorem addCyc_cyc (v : Nat) : (s.addCyc v).cyc = s.cyc + v := rfl
@[simp] theorem addCyc_totalCycles (v : Nat) : (s.addCyc v).totalCycles = s.totalCycles := rfl
@[simp] theorem addCyc_fault (v : Nat) : (s.addCyc v).fault = s.fault := rfl
@[simp] theorem addCyc_bus (v : Nat) : (s.addCyc v).bus = s.bus := rfl

@[simp] theorem setTotalCycles_regs (v : Nat) : (s.setTotalCycles v).regs = s.regs := rfl
@[simp] theorem setTotalCycles_cyc (v : Nat) : (s.setTotalCycles v).cyc = s.cyc := rfl
@[simp] theorem setTotalCycles_totalCycles (v : Nat) : (s.setTotalCycles v).totalCycles = v := rfl
@[simp] theorem setTotalCycles_fault (v : Nat) : (s.setTotalCycles v).fault = s.fault := rfl
@[simp] theorem setTotalCycles_bus (v : Nat) : (s.setTotalCycles v).bus = s.bus := rfl

@[simp] theorem setFault_regs (v : Option FaultRecord) : (s.setFault v).regs = s.regs := rfl
@[simp] theorem setFault_cyc (v : Option FaultRecord) : (s.setFault v).cyc = s.cyc := rfl
@[simp] theorem setFault_totalCycles (v : Option FaultRecord) : (s.setFault v).totalCycles = s.totalCycles := rfl
@[simp] theorem setFault_fault (v : Option FaultRecord) : (s.setFault v).fault = v := rfl
@[simp] theorem setFault_bus (v : Option FaultRecord) : (s.setFault v).bus = s.bus := rfl

@[simp] theorem setBus_regs (v : Bus) : (s.setBus v).regs = s.regs := rfl
@[simp] theorem setBus_cyc (v : Bus) : (s.setBus v).cyc = s.cyc := rfl
@[simp] theorem setBus_totalCycles (v : Bus) : (s.setBus v).totalCycles = s.totalCycles := rfl
@[simp] theorem setBus_fault (v : Bus) : (s.setBus v).fault = s.fault := rfl
@[simp] theorem setBus_bus (v : Bus) : (s.setBus v).bus = v := rfl

end Sys2Proof.Machine.State
end

