-- ==== Sys2Proof/Laws/Bus.lean ====
section
/-! SUPPORT. What each operation of Machine/Ops.lean can do: the bus primitives, the OAM DMA, the stack, the
interrupt entry and exit. -/

namespace Sys2Proof.Machine

/-! ## The bus -/

section
variable (b : Bus) (a : Addr) (v : Byte)

@[simp] theorem Bus.load_fst : (b.load a).1 = b.answer a := rfl
@[simp] theorem Bus.load_mem : (b.load a).2.mem = b.mem := rfl
@[simp] theorem Bus.load_answers : (b.load a).2.answers = b.answers.tail := rfl
@[simp] theorem Bus.load_trace : (b.load a).2.trace = .load a (b.answer a) :: b.trace := rfl
@[simp] theorem Bus.store_mem : (b.store a v).mem = b.mem.write a.toNat v := rfl
@[simp] theorem Bus.store_answers : (b.store a v).answers = b.answers := rfl
@[simp] theorem Bus.store_trace : (b.store a v).trace = .store a v :: b.trace := rfl

/-- With nothing from the oracle, the bus answers from memory. -/
theorem Bus.answer_flat (h : b.answers = []) : b.answer a = b.mem.read a.toNat := by
  simp [Bus.answer, h]
end

/-! ## Loads -/

section
variable (a : Addr) (s : State)

@[simp] theorem memRead_fst : (memRead a s).1 = s.bus.answer a := rfl
@[simp] theorem memRead_regs : (memRead a s).2.regs = s.regs := rfl
@[simp] theorem memRead_cyc : (memRead a s).2.cyc = s.cyc := rfl
@[simp] theorem memRead_totalCycles : (memRead a s).2.totalCycles = s.totalCycles := rfl
@[simp] theorem memRead_fault : (memRead a s).2.fault = s.fault := rfl
@[simp] theorem memRead_bus : (memRead a s).2.bus = (s.bus.load a).2 := rfl

@[simp] theorem loadWord_regs : (loadWord a s).2.regs = s.regs := rfl
@[simp] theorem loadWord_cyc : (loadWord a s).2.cyc = s.cyc := rfl
@[simp] theorem loadWord_totalCycles : (loadWord a s).2.totalCycles = s.totalCycles := rfl
@[simp] theorem loadWord_fault : (loadWord a s).2.fault = s.fault := rfl
@[simp] theorem loadWord_bus : (loadWord a s).2.bus = ((s.bus.load a).2.load (a + 1)).2 := rfl
theorem loadWord_fst :
    (loadWord a s).1 = word ((s.bus.load a).2.answer (a + 1)) (s.bus.answer a) := rfl
end

/-! ## The OAM DMA and stores -/

theorem oamCopy_zero (v : Byte) (i : Nat) (b : Bus) : oamCopy v 0 i b = b := by rw [oamCopy]
theorem oamCopy_succ (v : Byte) (n i : Nat) (b : Bus) :
    oamCopy v (n + 1) i b = oamCopy v n (i + 1) (oamCopyByte v i b) := by rw [oamCopy]

theorem oamCopy_mem_wf (v : Byte) (n : Nat) : ∀ (i : Nat) (b : Bus), b.mem.wf = true →
    (oamCopy v n i b).mem.wf = true := by
  induction n with
  | zero => intro i b h; rwa [oamCopy_zero]
  | succ n ih => intro i b h; rw [oamCopy_succ]; exact ih _ _ (Memory.wf_write h _ _)

theorem oamCopy_read_other (v : Byte) (n : Nat) {a : Nat} (ha : a ≠ Config.oamDataAddr.toNat) :
    ∀ (i : Nat) (b : Bus), (oamCopy v n i b).mem.read a = b.mem.read a := by
  induction n with
  | zero => intro i b; rw [oamCopy_zero]
  | succ n ih =>
    intro i b
    rw [oamCopy_succ]
    exact (ih _ _).trans (Memory.read_write_other ha _ _)

theorem oamCopy_trace (v : Byte) (n : Nat) : ∀ (i : Nat) (b : Bus),
    ∃ new, (oamCopy v n i b).trace = new ++ b.trace := by
  induction n with
  | zero => intro i b; exact ⟨[], by rw [oamCopy_zero]; rfl⟩
  | succ n ih =>
    intro i b
    obtain ⟨new, h⟩ := ih (i + 1) (oamCopyByte v i b)
    exact ⟨new ++ [.store Config.oamDataAddr (b.answer (word v (BitVec.ofNat 8 i))),
      .load (word v (BitVec.ofNat 8 i)) (b.answer (word v (BitVec.ofNat 8 i)))], by
      rw [oamCopy_succ, h]
      simp [oamCopyByte]⟩

theorem dmaCycles_eq (t : Nat) : dmaCycles t = 513 ∨ dmaCycles t = 514 := by
  unfold dmaCycles
  split <;> simp [Params.dmaCyclesEven, Params.dmaCyclesOdd]

section
variable (a : Addr) (v : Byte) (s : State)

@[simp] theorem oamDma_regs : (oamDma v s).regs = s.regs := by simp [oamDma]
@[simp] theorem oamDma_totalCycles : (oamDma v s).totalCycles = s.totalCycles := by simp [oamDma]
@[simp] theorem oamDma_fault : (oamDma v s).fault = s.fault := by simp [oamDma]
@[simp] theorem oamDma_bus : (oamDma v s).bus = oamCopy v 256 0 s.bus := by simp [oamDma]

/-- A store away from the DMA trigger is one bus transaction and nothing else (rule R28). -/
theorem memWrite_plain (h : a ≠ Config.dmaTriggerAddr) :
    memWrite a v s = s.setBus (s.bus.store a v) := by
  simp [memWrite, h]

@[simp] theorem memWrite_regs : (memWrite a v s).regs = s.regs := by
  simp only [memWrite]; split <;> simp
@[simp] theorem memWrite_totalCycles : (memWrite a v s).totalCycles = s.totalCycles := by
  simp only [memWrite]; split <;> simp
@[simp] theorem memWrite_fault : (memWrite a v s).fault = s.fault := by
  simp only [memWrite]; split <;> simp

/-- A store neither reads nor writes a register. -/
theorem memWrite_setRegs (r : Regs) : memWrite a v (s.setRegs r) = (memWrite a v s).setRegs r := by
  unfold memWrite
  simp only
  split <;> rfl

/-- A store charges nothing, or the cost of one DMA where its address is the trigger (rules R37 and R54). -/
theorem memWrite_cyc :
    ((memWrite a v s).cyc = s.cyc) ∨
      (a = Config.dmaTriggerAddr ∧
        ((memWrite a v s).cyc = s.cyc + 513 ∨ (memWrite a v s).cyc = s.cyc + 514)) := by
  unfold memWrite
  simp only
  split
  · rename_i h
    exact .inr ⟨h, (dmaCycles_eq _).imp (congrArg (s.cyc + ·)) (congrArg (s.cyc + ·))⟩
  · exact .inl rfl

theorem memWrite_mem_wf (h : s.bus.mem.wf = true) : (memWrite a v s).bus.mem.wf = true := by
  unfold memWrite
  simp only
  split
  · exact oamCopy_mem_wf _ _ _ _ (Memory.wf_write h _ _)
  · exact Memory.wf_write h _ _

/-- A store changes the byte at its address, and OAM_DATA_ADDR if it starts a DMA; no other byte. -/
theorem memWrite_read_other {e : Nat} (ha : e ≠ a.toNat)
    (ho : a = Config.dmaTriggerAddr → e ≠ Config.oamDataAddr.toNat) :
    (memWrite a v s).bus.mem.read e = s.bus.mem.read e := by
  unfold memWrite
  simp only
  split
  · rename_i h
    exact (oamCopy_read_other _ _ (ho h) _ _).trans (Memory.read_write_other ha _ _)
  · exact Memory.read_write_other ha _ _

/-- The transactions of a store: the store itself, then those of a DMA if there is one. -/
theorem memWrite_trace :
    ∃ new, (memWrite a v s).bus.trace = new ++ .store a v :: s.bus.trace := by
  unfold memWrite
  simp only
  split
  · exact oamCopy_trace v 256 0 (s.bus.store a v)
  · exact ⟨[], rfl⟩
end

/-! ## The stack -/

/-- No stack address is the DMA trigger. -/
theorem stackAddr_ne_trigger (sp : Byte) : stackAddr sp ≠ Config.dmaTriggerAddr := by
  revert sp
  decide

/-- A push is one store at the stack address and the decrement of SP (rule R35). -/
theorem push_eq (v : Byte) (s : State) :
    push v s = (s.setBus (s.bus.store (stackAddr s.regs.sp) v)).setSp (s.regs.sp - 1) := by
  simp [push, memWrite_plain _ _ _ (stackAddr_ne_trigger s.regs.sp)]

section
variable (v : Byte) (s : State)
@[simp] theorem push_regs : (push v s).regs = { s.regs with sp := s.regs.sp - 1 } := by
  rw [push_eq]; rfl
@[simp] theorem push_cyc : (push v s).cyc = s.cyc := by rw [push_eq]; rfl
@[simp] theorem push_totalCycles : (push v s).totalCycles = s.totalCycles := by rw [push_eq]; rfl
@[simp] theorem push_fault : (push v s).fault = s.fault := by rw [push_eq]; rfl
@[simp] theorem push_bus : (push v s).bus = s.bus.store (stackAddr s.regs.sp) v := by
  rw [push_eq]; rfl

@[simp] theorem pull_fst : (pull s).1 = s.bus.answer (stackAddr (s.regs.sp + 1)) := rfl
@[simp] theorem pull_regs : (pull s).2.regs = { s.regs with sp := s.regs.sp + 1 } := rfl
@[simp] theorem pull_cyc : (pull s).2.cyc = s.cyc := rfl
@[simp] theorem pull_totalCycles : (pull s).2.totalCycles = s.totalCycles := rfl
@[simp] theorem pull_fault : (pull s).2.fault = s.fault := rfl
@[simp] theorem pull_bus : (pull s).2.bus = (s.bus.load (stackAddr (s.regs.sp + 1))).2 := rfl
end

/-! ## The interrupt entry and exit -/

section
variable (vector : Addr) (pushed : Byte) (setI : Bool) (s : State)

/-- The bus after the three pushes of an entry (rule R156). -/
def entryBus (b : Bus) (r : Regs) (pushed : Byte) : Bus :=
  ((b.store (stackAddr r.sp) (hi r.pc)).store (stackAddr (r.sp - 1)) (lo r.pc)).store
    (stackAddr (r.sp - 1 - 1)) pushed

/-- An entry's registers: SP three lower, PC from the vector, I set if asked, nothing else (rule R156). -/
theorem enterInterrupt_regs :
    (enterInterrupt vector pushed setI s).regs =
      { s.regs with
        sp := s.regs.sp - 1 - 1 - 1
        pc := word (((entryBus s.bus s.regs pushed).load vector).2.answer (vector + 1))
          ((entryBus s.bus s.regs pushed).answer vector)
        p := if setI then { s.regs.p with i := true } else s.regs.p } := by
  cases setI <;> simp [enterInterrupt, State.setPc, State.setP, entryBus, loadWord_fst]

@[simp] theorem enterInterrupt_cyc : (enterInterrupt vector pushed setI s).cyc = s.cyc := by
  cases setI <;> simp [enterInterrupt]
@[simp] theorem enterInterrupt_totalCycles :
    (enterInterrupt vector pushed setI s).totalCycles = s.totalCycles := by
  cases setI <;> simp [enterInterrupt]
@[simp] theorem enterInterrupt_fault : (enterInterrupt vector pushed setI s).fault = s.fault := by
  cases setI <;> simp [enterInterrupt]
theorem enterInterrupt_bus :
    (enterInterrupt vector pushed setI s).bus =
      (((entryBus s.bus s.regs pushed).load vector).2.load (vector + 1)).2 := by
  cases setI <;> simp [enterInterrupt, entryBus]

/-- The exit's registers: P, PC and SP from the three pulled bytes, nothing else (rule R160). -/
theorem returnFromInterrupt_regs :
    (returnFromInterrupt s).regs =
      let b1 := (s.bus.load (stackAddr (s.regs.sp + 1))).2
      let b2 := (b1.load (stackAddr (s.regs.sp + 1 + 1))).2
      { s.regs with
        sp := s.regs.sp + 1 + 1 + 1
        pc := word (b2.answer (stackAddr (s.regs.sp + 1 + 1 + 1)))
          (b1.answer (stackAddr (s.regs.sp + 1 + 1)))
        p := unpackPull (s.bus.answer (stackAddr (s.regs.sp + 1))) } := rfl
end

end Sys2Proof.Machine
end

