-- ==== Sys2Proof/Laws/Decode.lean ====
section
/-! SUPPORT. The byte-order helpers, and what an opcode fixes. -/

namespace Sys2Proof

theorem getLsbD_word (h l : Byte) (i : Nat) :
    (word h l).getLsbD i = if i < 8 then l.getLsbD i else h.getLsbD (i - 8) :=
  BitVec.getLsbD_append

theorem getLsbD_lo (w : Addr) (i : Nat) : (lo w).getLsbD i = (decide (i < 8) && w.getLsbD i) := by
  simp [lo]

theorem getLsbD_hi (w : Addr) (i : Nat) : (hi w).getLsbD i = (decide (i < 8) && w.getLsbD (8 + i)) := by
  simp [hi]

@[simp] theorem word_hi_lo (w : Addr) : word (hi w) (lo w) = w := by
  apply BitVec.eq_of_getLsbD_eq
  intro i h
  rw [getLsbD_word, getLsbD_lo, getLsbD_hi]
  split
  · simp [*]
  · have e : 8 + (i - 8) = i := by omega
    have f : i - 8 < 8 := by omega
    simp [e, f]

@[simp] theorem hi_word (h l : Byte) : hi (word h l) = h := by
  apply BitVec.eq_of_getLsbD_eq
  intro i hi
  rw [getLsbD_hi, getLsbD_word]
  simp [hi]

@[simp] theorem lo_word (h l : Byte) : lo (word h l) = l := by
  apply BitVec.eq_of_getLsbD_eq
  intro i hi
  rw [getLsbD_lo, getLsbD_word]
  simp [hi]

/-- Decoding an opcode gives an instruction of that opcode, whatever the operand bytes are. -/
theorem opcode_decodeOp (op b1 b2 : Byte) : (decodeOp op b1 b2).opcode = op := by
  have h : ∀ n < 256, ∀ b1 b2, (decodeOp (BitVec.ofNat 8 n) b1 b2).opcode = BitVec.ofNat 8 n := by
    intro n hn
    interval_cases n <;> exact fun _ _ => rfl
  simpa using h op.toNat op.isLt b1 b2

end Sys2Proof
end

