-- ==== Sys2Proof/Laws/Flags.lean ====
section
/-! SUPPORT. What the packings of P and the flag functions do, bit by bit and as integer arithmetic. -/

namespace Sys2Proof.Machine

/-- Packing, then pulling, keeps every flag but B. -/
theorem unpackPull_packP (p : Flags) : unpackPull (packP p) = { p with b := false } := by
  obtain ⟨n, v, b, d, i, z, c⟩ := p
  revert n v b d i z c
  decide

/-- The pushed form pulls to the same flags: bit 4 is ignored. -/
theorem unpackPull_packPush (p : Flags) : unpackPull (packPush p) = { p with b := false } := by
  obtain ⟨n, v, b, d, i, z, c⟩ := p
  revert n v b d i z c
  decide

/-- Packing, then restoring, keeps every flag (rule R172). -/
theorem unpackRestore_packP (p : Flags) : unpackRestore (packP p) = p := by
  obtain ⟨n, v, b, d, i, z, c⟩ := p
  revert n v b d i z c
  decide

section
variable (v : Byte) (p : Flags)
@[simp] theorem setZN_n : (setZN v p).n = v.getLsbD 7 := rfl
@[simp] theorem setZN_v : (setZN v p).v = p.v := rfl
@[simp] theorem setZN_b : (setZN v p).b = p.b := rfl
@[simp] theorem setZN_d : (setZN v p).d = p.d := rfl
@[simp] theorem setZN_i : (setZN v p).i = p.i := rfl
@[simp] theorem setZN_z : (setZN v p).z = (v == 0x00#8) := rfl
@[simp] theorem setZN_c : (setZN v p).c = p.c := rfl
@[simp] theorem unpackPull_b : (unpackPull v).b = false := rfl
end

/-- The sum's byte is the 9-bit sum modulo 256 (rule R83). -/
theorem addWithCarry_fst (a m : Byte) (p : Flags) :
    (addWithCarry a m p).1 = BitVec.ofNat 8 (a.toNat + m.toNat + p.c.toNat) := rfl
/-- The carry is the 9-bit sum's ninth bit (rule R83). -/
theorem addWithCarry_c (a m : Byte) (p : Flags) :
    (addWithCarry a m p).2.c = decide (a.toNat + m.toNat + p.c.toNat > 0xFF) := rfl

/-- Addition, compare, BIT and the shifter leave I, D and B alone. -/
theorem addWithCarry_others (a m : Byte) (p : Flags) :
    (addWithCarry a m p).2.i = p.i ∧ (addWithCarry a m p).2.d = p.d ∧ (addWithCarry a m p).2.b = p.b :=
  ⟨rfl, rfl, rfl⟩

end Sys2Proof.Machine
end

