-- ==== Sys2Proof/Laws/Operands.lean ====
section
/-! SUPPORT. What the address-mode resolver and its three patterns can do. -/

namespace Sys2Proof.Machine

section
variable (m : Mode) (s : State)

theorem pageCross_le (base ea : Addr) : pageCross base ea ≤ 1 := by
  unfold pageCross
  split <;> omega

@[simp] theorem indexed_fst (c : Bool) (base : Addr) (i : Byte) :
    (indexed c base i s).1 = base + zext i := rfl
@[simp] theorem indexed_regs (c : Bool) (base : Addr) (i : Byte) :
    (indexed c base i s).2.regs = s.regs := by cases c <;> rfl
@[simp] theorem indexed_totalCycles (c : Bool) (base : Addr) (i : Byte) :
    (indexed c base i s).2.totalCycles = s.totalCycles := by cases c <;> rfl
@[simp] theorem indexed_fault (c : Bool) (base : Addr) (i : Byte) :
    (indexed c base i s).2.fault = s.fault := by cases c <;> rfl
@[simp] theorem indexed_bus (c : Bool) (base : Addr) (i : Byte) :
    (indexed c base i s).2.bus = s.bus := by cases c <;> rfl
@[simp] theorem indexed_false (base : Addr) (i : Byte) :
    indexed false base i s = (base + zext i, s) := rfl
theorem indexed_true_cyc (base : Addr) (i : Byte) :
    (indexed true base i s).2.cyc = s.cyc + pageCross base (base + zext i) := rfl

/-- The resolver never changes a register (rule R57). -/
@[simp] theorem resolve_regs : (resolve m s).2.regs = s.regs := by
  cases m <;> simp [resolve, zeroPagePointer, samePagePointer]
@[simp] theorem resolve_totalCycles : (resolve m s).2.totalCycles = s.totalCycles := by
  cases m <;> simp [resolve, zeroPagePointer, samePagePointer]
@[simp] theorem resolve_fault : (resolve m s).2.fault = s.fault := by
  cases m <;> simp [resolve, zeroPagePointer, samePagePointer]
/-- The resolver never stores (rule R57). -/
@[simp] theorem resolve_mem : (resolve m s).2.bus.mem = s.bus.mem := by
  cases m <;> simp [resolve, zeroPagePointer, samePagePointer]
/-- The modes that may charge the page-cross penalty (rules R64, R66 and R70). -/
def Mode.penalty : Mode → Bool
  | .absXRead _ | .absYRead _ | .indYRead _ => true
  | .imm _ | .zp _ | .zpX _ | .zpY _ | .abs _ | .absXWrite _ | .absYWrite _ | .indirect _ | .indX _
  | .indYWrite _ => false
/-- The resolver charges at most the page-cross penalty, and only where the mode has one (rule R72). -/
theorem resolve_cyc :
    s.cyc ≤ (resolve m s).2.cyc ∧ (resolve m s).2.cyc ≤ s.cyc + (if m.penalty then 1 else 0) := by
  cases m <;> simp [resolve, Mode.penalty, indexed_true_cyc, pageCross_le, zeroPagePointer, samePagePointer]
theorem resolve_trace : ∃ new, (resolve m s).2.bus.trace = new ++ s.bus.trace := by
  cases m <;> simp only [resolve, zeroPagePointer, samePagePointer, indexed_bus, indexed_false, memRead_bus,
      Bus.load_trace] <;>
    first
      | exact ⟨[], rfl⟩
      | exact ⟨[_, _], rfl⟩

@[simp] theorem readOp_imm (v : Byte) : readOp (.imm v) s = (v, s) := rfl
/-- Every mode but the immediate reads one byte at its effective address (rule R58). -/
theorem readOp_mem (h : ∀ v, m ≠ .imm v) : readOp m s = memRead (resolve m s).1 (resolve m s).2 := by
  cases m <;> first | rfl | exact absurd rfl (h _)

@[simp] theorem readOp_regs : (readOp m s).2.regs = s.regs := by
  cases m <;> simp [readOp]
@[simp] theorem readOp_totalCycles : (readOp m s).2.totalCycles = s.totalCycles := by
  cases m <;> simp [readOp]
@[simp] theorem readOp_fault : (readOp m s).2.fault = s.fault := by
  cases m <;> simp [readOp]
@[simp] theorem readOp_mem_eq : (readOp m s).2.bus.mem = s.bus.mem := by
  cases m <;> simp [readOp]
theorem readOp_cyc :
    s.cyc ≤ (readOp m s).2.cyc ∧ (readOp m s).2.cyc ≤ s.cyc + (if m.penalty then 1 else 0) := by
  have h := resolve_cyc m s
  cases m <;> exact h
theorem readOp_trace : ∃ new, (readOp m s).2.bus.trace = new ++ s.bus.trace := by
  obtain ⟨new, h⟩ := resolve_trace m s
  cases m <;>
    first
      | exact ⟨[], rfl⟩
      | exact ⟨_ :: new, by rw [readOp_mem _ _ (by simp), memRead_bus, Bus.load_trace, h]; rfl⟩

variable (v : Byte) (f : Byte → Flags → Byte × Flags)

/-- The store of `writeOp` is one `memWrite` at the resolved address (rule R58). -/
theorem writeOp_eq : writeOp m v s = memWrite (resolve m s).1 v (resolve m s).2 := rfl
@[simp] theorem writeOp_regs : (writeOp m v s).regs = s.regs := by simp [writeOp]
@[simp] theorem writeOp_totalCycles : (writeOp m v s).totalCycles = s.totalCycles := by simp [writeOp]
@[simp] theorem writeOp_fault : (writeOp m v s).fault = s.fault := by simp [writeOp]

/-- The byte a read-modify-write loads (rule R58). -/
def rmwLoaded (m : Mode) (s : State) : Byte × State := memRead (resolve m s).1 (resolve m s).2

@[simp] theorem rmwLoaded_regs : (rmwLoaded m s).2.regs = s.regs := by simp [rmwLoaded]
@[simp] theorem rmwOp_fst : (rmwOp m f s).1 = (f (rmwLoaded m s).1 s.regs.p).1 := by
  simp [rmwOp, rmwLoaded]
/-- A read-modify-write changes no register but P, which its function gives (rule R58). -/
@[simp] theorem rmwOp_regs :
    (rmwOp m f s).2.regs = { s.regs with p := (f (rmwLoaded m s).1 s.regs.p).2 } := by
  simp [rmwOp, rmwLoaded, State.setP]
@[simp] theorem rmwOp_totalCycles : (rmwOp m f s).2.totalCycles = s.totalCycles := by simp [rmwOp]
@[simp] theorem rmwOp_fault : (rmwOp m f s).2.fault = s.fault := by simp [rmwOp]
/-- The state a read-modify-write leaves: its store made, P from its function, nothing else (rule R58). -/
theorem rmwOp_eq :
    (rmwOp m f s).2 =
      (memWrite (resolve m s).1 (f (rmwLoaded m s).1 s.regs.p).1 (rmwLoaded m s).2).setRegs
        { s.regs with p := (f (rmwLoaded m s).1 s.regs.p).2 } := by
  rw [← memWrite_setRegs]
  simp [rmwOp, rmwLoaded, State.setP, State.setRegs]
theorem rmwOp_snd :
    (rmwOp m f s).2 = memWrite (resolve m s).1 (f (rmwLoaded m s).1 s.regs.p).1
      ((rmwLoaded m s).2.setP (f (rmwLoaded m s).1 s.regs.p).2) := by
  simp [rmwOp, rmwLoaded]
end

end Sys2Proof.Machine
end

