-- ==== Sys2Proof/Laws/Kept.lean ====
section
/-! SUPPORT. What every execution keeps, said once: one lemma per shared operation, then one for `exec`. -/

namespace Sys2Proof.Machine

/-- What no execution breaks: it neither faults the core nor touches the running total, it never takes cycles back, it
keeps memory's canonical form, and it only adds bus transactions. -/
structure Kept (s t : State) : Prop where
  fault : t.fault = s.fault
  totalCycles : t.totalCycles = s.totalCycles
  cyc : s.cyc ≤ t.cyc
  wf : s.bus.mem.wf = true → t.bus.mem.wf = true
  trace : ExtendsTrace s t

theorem ExtendsTrace.refl (s : State) : ExtendsTrace s s := ⟨[], rfl⟩

theorem ExtendsTrace.trans {s t u : State} (h : ExtendsTrace s t) (k : ExtendsTrace t u) : ExtendsTrace s u := by
  obtain ⟨l, hl⟩ := h
  obtain ⟨m, hm⟩ := k
  exact ⟨m ++ l, by rw [hm, hl, List.append_assoc]⟩

namespace Kept

variable {s t u : State}

theorem refl (s : State) : Kept s s := ⟨rfl, rfl, le_refl _, id, ExtendsTrace.refl s⟩

theorem trans (h : Kept s t) (k : Kept t u) : Kept s u :=
  ⟨k.fault.trans h.fault, k.totalCycles.trans h.totalCycles, h.cyc.trans k.cyc, k.wf ∘ h.wf, h.trace.trans k.trace⟩

theorem setA (h : Kept s t) (v : Byte) : Kept s (t.setA v) := ⟨h.1, h.2, h.3, h.4, h.5⟩
theorem setX (h : Kept s t) (v : Byte) : Kept s (t.setX v) := ⟨h.1, h.2, h.3, h.4, h.5⟩
theorem setY (h : Kept s t) (v : Byte) : Kept s (t.setY v) := ⟨h.1, h.2, h.3, h.4, h.5⟩
theorem setSp (h : Kept s t) (v : Byte) : Kept s (t.setSp v) := ⟨h.1, h.2, h.3, h.4, h.5⟩
theorem setPc (h : Kept s t) (v : Addr) : Kept s (t.setPc v) := ⟨h.1, h.2, h.3, h.4, h.5⟩
theorem setP (h : Kept s t) (v : Flags) : Kept s (t.setP v) := ⟨h.1, h.2, h.3, h.4, h.5⟩
theorem addCyc (h : Kept s t) (n : Nat) : Kept s (t.addCyc n) :=
  ⟨h.1, h.2, h.3.trans (Nat.le_add_right _ _), h.4, h.5⟩

theorem memRead (h : Kept s t) (a : Addr) : Kept s (memRead a t).2 :=
  h.trans ⟨rfl, rfl, le_refl _, id, ⟨[_], rfl⟩⟩

theorem resolve (h : Kept s t) (m : Mode) : Kept s (resolve m t).2 :=
  h.trans ⟨by simp, by simp, (resolve_cyc m t).1, by simp, resolve_trace m t⟩

theorem readOp (h : Kept s t) (m : Mode) : Kept s (readOp m t).2 :=
  h.trans ⟨by simp, by simp, (readOp_cyc m t).1, by simp, readOp_trace m t⟩

theorem memWrite (h : Kept s t) (a : Addr) (v : Byte) : Kept s (memWrite a v t) := by
  refine h.trans ⟨by simp, by simp, ?_, memWrite_mem_wf a v t, ?_⟩
  · rcases memWrite_cyc a v t with k | ⟨-, k | k⟩ <;> omega
  · obtain ⟨new, h⟩ := memWrite_trace a v t
    exact ⟨new ++ [.store a v], by rw [h, List.append_assoc]; rfl⟩

theorem writeOp (h : Kept s t) (m : Mode) (v : Byte) : Kept s (writeOp m v t) := (h.resolve m).memWrite _ _

theorem rmwOp (h : Kept s t) (m : Mode) (f : Byte → Flags → Byte × Flags) : Kept s (rmwOp m f t).2 := by
  rw [rmwOp_snd]
  exact (((h.resolve m).memRead _).setP _).memWrite _ _

theorem push (h : Kept s t) (v : Byte) : Kept s (push v t) := (h.memWrite _ _).setSp _

theorem pull (h : Kept s t) : Kept s (pull t).2 := (h.setSp _).memRead _

theorem loadWord (h : Kept s t) (a : Addr) : Kept s (loadWord a t).2 := (h.memRead a).memRead _

theorem branch (h : Kept s t) (c : Bool) (d : Byte) : Kept s (branch c d t) := by
  cases c
  · exact h
  · exact (h.addCyc _).setPc _

theorem enterInterrupt (h : Kept s t) (vector : Addr) (pushed : Byte) (setI : Bool) :
    Kept s (enterInterrupt vector pushed setI t) := by
  have hp := ((h.push (hi t.regs.pc)).push (lo t.regs.pc)).push pushed
  cases setI
  · exact (hp.loadWord vector).setPc _
  · exact ((hp.setP _).loadWord vector).setPc _

theorem returnFromInterrupt (h : Kept s t) : Kept s (returnFromInterrupt t) :=
  (((h.pull.setP _).pull).pull).setPc _

end Kept

/-! ## One lemma per operation of an instruction -/

theorem opAdc_kept (m : Mode) (s : State) : Kept s (opAdc m s) := .setP (.setA (.readOp (.refl s) m) _) _
theorem opSbc_kept (m : Mode) (s : State) : Kept s (opSbc m s) := .setP (.setA (.readOp (.refl s) m) _) _
theorem opAnd_kept (m : Mode) (s : State) : Kept s (opAnd m s) := .setP (.setA (.readOp (.refl s) m) _) _
theorem opOra_kept (m : Mode) (s : State) : Kept s (opOra m s) := .setP (.setA (.readOp (.refl s) m) _) _
theorem opEor_kept (m : Mode) (s : State) : Kept s (opEor m s) := .setP (.setA (.readOp (.refl s) m) _) _
theorem opLda_kept (m : Mode) (s : State) : Kept s (opLda m s) := .setP (.setA (.readOp (.refl s) m) _) _
theorem opSbcUndocumented_kept (m : Mode) (s : State) : Kept s (opSbcUndocumented m s) :=
  .setP (.setA (.readOp (.refl s) m) _) _
theorem opAnc_kept (m : Mode) (s : State) : Kept s (opAnc m s) := .setP (.setA (.readOp (.refl s) m) _) _
theorem opBit_kept (m : Mode) (s : State) : Kept s (opBit m s) := .setP (.readOp (.refl s) m) _
theorem opCmp_kept (m : Mode) (s : State) : Kept s (opCmp m s) := .setP (.readOp (.refl s) m) _
theorem opCpx_kept (m : Mode) (s : State) : Kept s (opCpx m s) := .setP (.readOp (.refl s) m) _
theorem opCpy_kept (m : Mode) (s : State) : Kept s (opCpy m s) := .setP (.readOp (.refl s) m) _
theorem opLdx_kept (m : Mode) (s : State) : Kept s (opLdx m s) := .setP (.setX (.readOp (.refl s) m) _) _
theorem opLdy_kept (m : Mode) (s : State) : Kept s (opLdy m s) := .setP (.setY (.readOp (.refl s) m) _) _
theorem opLax_kept (m : Mode) (s : State) : Kept s (opLax m s) := .setP (.setX (.setA (.readOp (.refl s) m) _) _) _
theorem opSta_kept (m : Mode) (s : State) : Kept s (opSta m s) := .writeOp (.refl s) m _
theorem opStx_kept (m : Mode) (s : State) : Kept s (opStx m s) := .writeOp (.refl s) m _
theorem opSty_kept (m : Mode) (s : State) : Kept s (opSty m s) := .writeOp (.refl s) m _
theorem opSax_kept (m : Mode) (s : State) : Kept s (opSax m s) := .writeOp (.refl s) m _
theorem opAsl_kept (m : Mode) (s : State) : Kept s (opAsl m s) := .rmwOp (.refl s) m _
theorem opLsr_kept (m : Mode) (s : State) : Kept s (opLsr m s) := .rmwOp (.refl s) m _
theorem opRol_kept (m : Mode) (s : State) : Kept s (opRol m s) := .rmwOp (.refl s) m _
theorem opRor_kept (m : Mode) (s : State) : Kept s (opRor m s) := .rmwOp (.refl s) m _
theorem opInc_kept (m : Mode) (s : State) : Kept s (opInc m s) := .rmwOp (.refl s) m _
theorem opDec_kept (m : Mode) (s : State) : Kept s (opDec m s) := .rmwOp (.refl s) m _
theorem opSlo_kept (m : Mode) (s : State) : Kept s (opSlo m s) := .setP (.setA (.rmwOp (.refl s) m _) _) _
theorem opRla_kept (m : Mode) (s : State) : Kept s (opRla m s) := .setP (.setA (.rmwOp (.refl s) m _) _) _
theorem opSre_kept (m : Mode) (s : State) : Kept s (opSre m s) := .setP (.setA (.rmwOp (.refl s) m _) _) _
theorem opRra_kept (m : Mode) (s : State) : Kept s (opRra m s) := .setP (.setA (.rmwOp (.refl s) m _) _) _
theorem opIsb_kept (m : Mode) (s : State) : Kept s (opIsb m s) := .setP (.setA (.rmwOp (.refl s) m _) _) _
theorem opDcp_kept (m : Mode) (s : State) : Kept s (opDcp m s) := .setP (.rmwOp (.refl s) m _) _
theorem opNopMemory_kept (m : Mode) (s : State) : Kept s (opNopMemory m s) := .readOp (.refl s) m
theorem opJmp_kept (m : Mode) (s : State) : Kept s (opJmp m s) := .setPc (.resolve (.refl s) m) _
theorem opJsr_kept (w : Addr) (s : State) : Kept s (opJsr w s) :=
  .setPc (.push (.push (.resolve (.refl s) (.abs w)) _) _) _
theorem opRts_kept (s : State) : Kept s (opRts s) := .setPc (.pull (.pull (.refl s))) _
theorem opPha_kept (s : State) : Kept s (opPha s) := .push (.refl s) _
theorem opPhp_kept (s : State) : Kept s (opPhp s) := .push (.refl s) _
theorem opPla_kept (s : State) : Kept s (opPla s) := .setP (.setA (.pull (.refl s)) _) _
theorem opPlp_kept (s : State) : Kept s (opPlp s) := .setP (.pull (.refl s)) _
theorem opTax_kept (s : State) : Kept s (opTax s) := .setP (.setX (.refl s) _) _
theorem opTay_kept (s : State) : Kept s (opTay s) := .setP (.setY (.refl s) _) _
theorem opTxa_kept (s : State) : Kept s (opTxa s) := .setP (.setA (.refl s) _) _
theorem opTya_kept (s : State) : Kept s (opTya s) := .setP (.setA (.refl s) _) _
theorem opTsx_kept (s : State) : Kept s (opTsx s) := .setP (.setX (.refl s) _) _
theorem opInx_kept (s : State) : Kept s (opInx s) := .setP (.setX (.refl s) _) _
theorem opIny_kept (s : State) : Kept s (opIny s) := .setP (.setY (.refl s) _) _
theorem opDex_kept (s : State) : Kept s (opDex s) := .setP (.setX (.refl s) _) _
theorem opDey_kept (s : State) : Kept s (opDey s) := .setP (.setY (.refl s) _) _
theorem opAslAcc_kept (s : State) : Kept s (opAslAcc s) := .setP (.setA (.refl s) _) _
theorem opLsrAcc_kept (s : State) : Kept s (opLsrAcc s) := .setP (.setA (.refl s) _) _
theorem opRolAcc_kept (s : State) : Kept s (opRolAcc s) := .setP (.setA (.refl s) _) _
theorem opRorAcc_kept (s : State) : Kept s (opRorAcc s) := .setP (.setA (.refl s) _) _
theorem opTxs_kept (s : State) : Kept s (opTxs s) := .setSp (.refl s) _
theorem opClc_kept (s : State) : Kept s (opClc s) := .setP (.refl s) _
theorem opSec_kept (s : State) : Kept s (opSec s) := .setP (.refl s) _
theorem opCli_kept (s : State) : Kept s (opCli s) := .setP (.refl s) _
theorem opSei_kept (s : State) : Kept s (opSei s) := .setP (.refl s) _
theorem opCld_kept (s : State) : Kept s (opCld s) := .setP (.refl s) _
theorem opSed_kept (s : State) : Kept s (opSed s) := .setP (.refl s) _
theorem opClv_kept (s : State) : Kept s (opClv s) := .setP (.refl s) _
theorem opShy_kept (w : Addr) (s : State) : Kept s (opShy w s) := .memWrite (.resolve (.refl s) (.absXWrite w)) _ _
theorem opShx_kept (w : Addr) (s : State) : Kept s (opShx w s) := .memWrite (.resolve (.refl s) (.absYWrite w)) _ _
theorem opBrk_kept (s : State) : Kept s (opBrk s) := .enterInterrupt (.setPc (.refl s) _) _ _ _
theorem opRti_kept (s : State) : Kept s (opRti s) := .returnFromInterrupt (.refl s)

/-- An execution that answers a next state has kept all of these. -/
theorem exec_kept {s t : State} : ∀ {i : Instr}, exec i s = .next t → Kept s t
  | .brk =>
    fun h => by cases h; exact opBrk_kept _
  | .oraIndX _ | .oraZp _ | .oraImm _ | .oraAbs _ | .oraIndY _ | .oraZpX _ | .oraAbsY _ | .oraAbsX _ =>
    fun h => by cases h; exact opOra_kept _ _
  | .jam02 | .jam12 | .jam22 | .jam32 | .jam42 | .alr | .jam52 | .jam62 | .arr | .jam72 | .xaa | .jam92
  | .ahx93 | .tas | .ahx9F | .lxa | .jamB2 | .las | .axs | .jamD2 | .jamF2 =>
    fun h => nomatch h
  | .sloIndX _ | .sloZp _ | .sloAbs _ | .sloIndY _ | .sloZpX _ | .sloAbsY _ | .sloAbsX _ =>
    fun h => by cases h; exact opSlo_kept _ _
  | .nopZp04 _ | .nopAbs0C _ | .nopZpX14 _ | .nopZpX34 _ | .nopZp44 _ | .nopZpX54 _ | .nopZp64 _
  | .nopZpX74 _ | .nopZpXD4 _ | .nopZpXF4 _ =>
    fun h => by cases h; exact opNopMemory_kept _ _
  | .aslZp _ | .aslAbs _ | .aslZpX _ | .aslAbsX _ =>
    fun h => by cases h; exact opAsl_kept _ _
  | .php =>
    fun h => by cases h; exact opPhp_kept _
  | .aslA =>
    fun h => by cases h; exact opAslAcc_kept _
  | .ancImm0B _ | .ancImm2B _ =>
    fun h => by cases h; exact opAnc_kept _ _
  | .bpl _ | .bmi _ | .bvc _ | .bvs _ | .bcc _ | .bcs _ | .bne _ | .beq _ =>
    fun h => by cases h; exact (Kept.refl s).branch _ _
  | .clc =>
    fun h => by cases h; exact opClc_kept _
  | .nop1A | .nop3A | .nop5A | .nop7A | .nopDA | .nop | .nopFA =>
    fun h => by cases h; exact .refl s
  | .nopAbsX1C _ | .nopAbsX3C _ | .nopAbsX5C _ | .nopAbsX7C _ | .nopImm80 _ | .nopImm82 _ | .nopImm89 _
  | .nopImmC2 _ | .nopAbsXDC _ | .nopImmE2 _ | .nopAbsXFC _ =>
    fun h => by cases h; exact (Kept.refl s).readOp _
  | .jsr _ =>
    fun h => by cases h; exact opJsr_kept _ _
  | .andIndX _ | .andZp _ | .andImm _ | .andAbs _ | .andIndY _ | .andZpX _ | .andAbsY _ | .andAbsX _ =>
    fun h => by cases h; exact opAnd_kept _ _
  | .rlaIndX _ | .rlaZp _ | .rlaAbs _ | .rlaIndY _ | .rlaZpX _ | .rlaAbsY _ | .rlaAbsX _ =>
    fun h => by cases h; exact opRla_kept _ _
  | .bitZp _ | .bitAbs _ =>
    fun h => by cases h; exact opBit_kept _ _
  | .rolZp _ | .rolAbs _ | .rolZpX _ | .rolAbsX _ =>
    fun h => by cases h; exact opRol_kept _ _
  | .plp =>
    fun h => by cases h; exact opPlp_kept _
  | .rolA =>
    fun h => by cases h; exact opRolAcc_kept _
  | .sec =>
    fun h => by cases h; exact opSec_kept _
  | .rti =>
    fun h => by cases h; exact opRti_kept _
  | .eorIndX _ | .eorZp _ | .eorImm _ | .eorAbs _ | .eorIndY _ | .eorZpX _ | .eorAbsY _ | .eorAbsX _ =>
    fun h => by cases h; exact opEor_kept _ _
  | .sreIndX _ | .sreZp _ | .sreAbs _ | .sreIndY _ | .sreZpX _ | .sreAbsY _ | .sreAbsX _ =>
    fun h => by cases h; exact opSre_kept _ _
  | .lsrZp _ | .lsrAbs _ | .lsrZpX _ | .lsrAbsX _ =>
    fun h => by cases h; exact opLsr_kept _ _
  | .pha =>
    fun h => by cases h; exact opPha_kept _
  | .lsrA =>
    fun h => by cases h; exact opLsrAcc_kept _
  | .jmpAbs _ | .jmpInd _ =>
    fun h => by cases h; exact opJmp_kept _ _
  | .cli =>
    fun h => by cases h; exact opCli_kept _
  | .rts =>
    fun h => by cases h; exact opRts_kept _
  | .adcIndX _ | .adcZp _ | .adcImm _ | .adcAbs _ | .adcIndY _ | .adcZpX _ | .adcAbsY _ | .adcAbsX _ =>
    fun h => by cases h; exact opAdc_kept _ _
  | .rraIndX _ | .rraZp _ | .rraAbs _ | .rraIndY _ | .rraZpX _ | .rraAbsY _ | .rraAbsX _ =>
    fun h => by cases h; exact opRra_kept _ _
  | .rorZp _ | .rorAbs _ | .rorZpX _ | .rorAbsX _ =>
    fun h => by cases h; exact opRor_kept _ _
  | .pla =>
    fun h => by cases h; exact opPla_kept _
  | .rorA =>
    fun h => by cases h; exact opRorAcc_kept _
  | .sei =>
    fun h => by cases h; exact opSei_kept _
  | .staIndX _ | .staZp _ | .staAbs _ | .staIndY _ | .staZpX _ | .staAbsY _ | .staAbsX _ =>
    fun h => by cases h; exact opSta_kept _ _
  | .saxIndX _ | .saxZp _ | .saxAbs _ | .saxZpY _ =>
    fun h => by cases h; exact opSax_kept _ _
  | .styZp _ | .styAbs _ | .styZpX _ =>
    fun h => by cases h; exact opSty_kept _ _
  | .stxZp _ | .stxAbs _ | .stxZpY _ =>
    fun h => by cases h; exact opStx_kept _ _
  | .dey =>
    fun h => by cases h; exact opDey_kept _
  | .txa =>
    fun h => by cases h; exact opTxa_kept _
  | .tya =>
    fun h => by cases h; exact opTya_kept _
  | .txs =>
    fun h => by cases h; exact opTxs_kept _
  | .shyAbsX _ =>
    fun h => by cases h; exact opShy_kept _ _
  | .shxAbsY _ =>
    fun h => by cases h; exact opShx_kept _ _
  | .ldyImm _ | .ldyZp _ | .ldyAbs _ | .ldyZpX _ | .ldyAbsX _ =>
    fun h => by cases h; exact opLdy_kept _ _
  | .ldaIndX _ | .ldaZp _ | .ldaImm _ | .ldaAbs _ | .ldaIndY _ | .ldaZpX _ | .ldaAbsY _ | .ldaAbsX _ =>
    fun h => by cases h; exact opLda_kept _ _
  | .ldxImm _ | .ldxZp _ | .ldxAbs _ | .ldxZpY _ | .ldxAbsY _ =>
    fun h => by cases h; exact opLdx_kept _ _
  | .laxIndX _ | .laxZp _ | .laxAbs _ | .laxIndY _ | .laxZpY _ | .laxAbsY _ =>
    fun h => by cases h; exact opLax_kept _ _
  | .tay =>
    fun h => by cases h; exact opTay_kept _
  | .tax =>
    fun h => by cases h; exact opTax_kept _
  | .clv =>
    fun h => by cases h; exact opClv_kept _
  | .tsx =>
    fun h => by cases h; exact opTsx_kept _
  | .cpyImm _ | .cpyZp _ | .cpyAbs _ =>
    fun h => by cases h; exact opCpy_kept _ _
  | .cmpIndX _ | .cmpZp _ | .cmpImm _ | .cmpAbs _ | .cmpIndY _ | .cmpZpX _ | .cmpAbsY _ | .cmpAbsX _ =>
    fun h => by cases h; exact opCmp_kept _ _
  | .dcpIndX _ | .dcpZp _ | .dcpAbs _ | .dcpIndY _ | .dcpZpX _ | .dcpAbsY _ | .dcpAbsX _ =>
    fun h => by cases h; exact opDcp_kept _ _
  | .decZp _ | .decAbs _ | .decZpX _ | .decAbsX _ =>
    fun h => by cases h; exact opDec_kept _ _
  | .iny =>
    fun h => by cases h; exact opIny_kept _
  | .dex =>
    fun h => by cases h; exact opDex_kept _
  | .cld =>
    fun h => by cases h; exact opCld_kept _
  | .cpxImm _ | .cpxZp _ | .cpxAbs _ =>
    fun h => by cases h; exact opCpx_kept _ _
  | .sbcIndX _ | .sbcZp _ | .sbcImm _ | .sbcAbs _ | .sbcIndY _ | .sbcZpX _ | .sbcAbsY _ | .sbcAbsX _ =>
    fun h => by cases h; exact opSbc_kept _ _
  | .isbIndX _ | .isbZp _ | .isbAbs _ | .isbIndY _ | .isbZpX _ | .isbAbsY _ | .isbAbsX _ =>
    fun h => by cases h; exact opIsb_kept _ _
  | .incZp _ | .incAbs _ | .incZpX _ | .incAbsX _ =>
    fun h => by cases h; exact opInc_kept _ _
  | .inx =>
    fun h => by cases h; exact opInx_kept _
  | .sbcImmEB _ =>
    fun h => by cases h; exact opSbcUndocumented_kept _ _
  | .sed =>
    fun h => by cases h; exact opSed_kept _

end Sys2Proof.Machine
end

