-- ==== Sys2Proof/Laws/PerInstr.lean ====
section
/-! SUPPORT. Facts about every instruction as syntax, one lemma per constructor: what its opcode byte fixes
(EncodedLength) and what its operand bytes decode to (OperandsDecode). -/

namespace Sys2Proof.Laws

/-- The opcode alone fixes how many operand bytes follow (rule R42). -/
def EncodedLength.Statement (i : Instr) : Prop := lengthOf i.opcode = (encode i).length

/-- The opcode and the operand bytes, padded to two, complete the instruction again (rules R43 and R44). -/
def OperandsDecode.Statement (i : Instr) : Prop :=
  decodeOp i.opcode (i.operands.getD 0 0x00#8) (i.operands.getD 1 0x00#8) = i

theorem EncodedLength.brk : EncodedLength.Statement .brk := (rfl : lengthOf 0x00#8 = 1)
theorem EncodedLength.oraIndX (z : Byte) : EncodedLength.Statement (.oraIndX z) :=
  (rfl : lengthOf 0x01#8 = 2)
theorem EncodedLength.jam02 : EncodedLength.Statement .jam02 := (rfl : lengthOf 0x02#8 = 1)
theorem EncodedLength.sloIndX (z : Byte) : EncodedLength.Statement (.sloIndX z) :=
  (rfl : lengthOf 0x03#8 = 2)
theorem EncodedLength.nopZp04 (z : Byte) : EncodedLength.Statement (.nopZp04 z) :=
  (rfl : lengthOf 0x04#8 = 2)
theorem EncodedLength.oraZp (z : Byte) : EncodedLength.Statement (.oraZp z) :=
  (rfl : lengthOf 0x05#8 = 2)
theorem EncodedLength.aslZp (z : Byte) : EncodedLength.Statement (.aslZp z) :=
  (rfl : lengthOf 0x06#8 = 2)
theorem EncodedLength.sloZp (z : Byte) : EncodedLength.Statement (.sloZp z) :=
  (rfl : lengthOf 0x07#8 = 2)
theorem EncodedLength.php : EncodedLength.Statement .php := (rfl : lengthOf 0x08#8 = 1)
theorem EncodedLength.oraImm (m : Byte) : EncodedLength.Statement (.oraImm m) :=
  (rfl : lengthOf 0x09#8 = 2)
theorem EncodedLength.aslA : EncodedLength.Statement .aslA := (rfl : lengthOf 0x0A#8 = 1)
theorem EncodedLength.ancImm0B (m : Byte) : EncodedLength.Statement (.ancImm0B m) :=
  (rfl : lengthOf 0x0B#8 = 2)
theorem EncodedLength.nopAbs0C (w : Addr) : EncodedLength.Statement (.nopAbs0C w) :=
  (rfl : lengthOf 0x0C#8 = 3)
theorem EncodedLength.oraAbs (w : Addr) : EncodedLength.Statement (.oraAbs w) :=
  (rfl : lengthOf 0x0D#8 = 3)
theorem EncodedLength.aslAbs (w : Addr) : EncodedLength.Statement (.aslAbs w) :=
  (rfl : lengthOf 0x0E#8 = 3)
theorem EncodedLength.sloAbs (w : Addr) : EncodedLength.Statement (.sloAbs w) :=
  (rfl : lengthOf 0x0F#8 = 3)
theorem EncodedLength.bpl (d : Byte) : EncodedLength.Statement (.bpl d) :=
  (rfl : lengthOf 0x10#8 = 2)
theorem EncodedLength.oraIndY (z : Byte) : EncodedLength.Statement (.oraIndY z) :=
  (rfl : lengthOf 0x11#8 = 2)
theorem EncodedLength.jam12 : EncodedLength.Statement .jam12 := (rfl : lengthOf 0x12#8 = 1)
theorem EncodedLength.sloIndY (z : Byte) : EncodedLength.Statement (.sloIndY z) :=
  (rfl : lengthOf 0x13#8 = 2)
theorem EncodedLength.nopZpX14 (z : Byte) : EncodedLength.Statement (.nopZpX14 z) :=
  (rfl : lengthOf 0x14#8 = 2)
theorem EncodedLength.oraZpX (z : Byte) : EncodedLength.Statement (.oraZpX z) :=
  (rfl : lengthOf 0x15#8 = 2)
theorem EncodedLength.aslZpX (z : Byte) : EncodedLength.Statement (.aslZpX z) :=
  (rfl : lengthOf 0x16#8 = 2)
theorem EncodedLength.sloZpX (z : Byte) : EncodedLength.Statement (.sloZpX z) :=
  (rfl : lengthOf 0x17#8 = 2)
theorem EncodedLength.clc : EncodedLength.Statement .clc := (rfl : lengthOf 0x18#8 = 1)
theorem EncodedLength.oraAbsY (w : Addr) : EncodedLength.Statement (.oraAbsY w) :=
  (rfl : lengthOf 0x19#8 = 3)
theorem EncodedLength.nop1A : EncodedLength.Statement .nop1A := (rfl : lengthOf 0x1A#8 = 1)
theorem EncodedLength.sloAbsY (w : Addr) : EncodedLength.Statement (.sloAbsY w) :=
  (rfl : lengthOf 0x1B#8 = 3)
theorem EncodedLength.nopAbsX1C (w : Addr) : EncodedLength.Statement (.nopAbsX1C w) :=
  (rfl : lengthOf 0x1C#8 = 3)
theorem EncodedLength.oraAbsX (w : Addr) : EncodedLength.Statement (.oraAbsX w) :=
  (rfl : lengthOf 0x1D#8 = 3)
theorem EncodedLength.aslAbsX (w : Addr) : EncodedLength.Statement (.aslAbsX w) :=
  (rfl : lengthOf 0x1E#8 = 3)
theorem EncodedLength.sloAbsX (w : Addr) : EncodedLength.Statement (.sloAbsX w) :=
  (rfl : lengthOf 0x1F#8 = 3)
theorem EncodedLength.jsr (w : Addr) : EncodedLength.Statement (.jsr w) :=
  (rfl : lengthOf 0x20#8 = 3)
theorem EncodedLength.andIndX (z : Byte) : EncodedLength.Statement (.andIndX z) :=
  (rfl : lengthOf 0x21#8 = 2)
theorem EncodedLength.jam22 : EncodedLength.Statement .jam22 := (rfl : lengthOf 0x22#8 = 1)
theorem EncodedLength.rlaIndX (z : Byte) : EncodedLength.Statement (.rlaIndX z) :=
  (rfl : lengthOf 0x23#8 = 2)
theorem EncodedLength.bitZp (z : Byte) : EncodedLength.Statement (.bitZp z) :=
  (rfl : lengthOf 0x24#8 = 2)
theorem EncodedLength.andZp (z : Byte) : EncodedLength.Statement (.andZp z) :=
  (rfl : lengthOf 0x25#8 = 2)
theorem EncodedLength.rolZp (z : Byte) : EncodedLength.Statement (.rolZp z) :=
  (rfl : lengthOf 0x26#8 = 2)
theorem EncodedLength.rlaZp (z : Byte) : EncodedLength.Statement (.rlaZp z) :=
  (rfl : lengthOf 0x27#8 = 2)
theorem EncodedLength.plp : EncodedLength.Statement .plp := (rfl : lengthOf 0x28#8 = 1)
theorem EncodedLength.andImm (m : Byte) : EncodedLength.Statement (.andImm m) :=
  (rfl : lengthOf 0x29#8 = 2)
theorem EncodedLength.rolA : EncodedLength.Statement .rolA := (rfl : lengthOf 0x2A#8 = 1)
theorem EncodedLength.ancImm2B (m : Byte) : EncodedLength.Statement (.ancImm2B m) :=
  (rfl : lengthOf 0x2B#8 = 2)
theorem EncodedLength.bitAbs (w : Addr) : EncodedLength.Statement (.bitAbs w) :=
  (rfl : lengthOf 0x2C#8 = 3)
theorem EncodedLength.andAbs (w : Addr) : EncodedLength.Statement (.andAbs w) :=
  (rfl : lengthOf 0x2D#8 = 3)
theorem EncodedLength.rolAbs (w : Addr) : EncodedLength.Statement (.rolAbs w) :=
  (rfl : lengthOf 0x2E#8 = 3)
theorem EncodedLength.rlaAbs (w : Addr) : EncodedLength.Statement (.rlaAbs w) :=
  (rfl : lengthOf 0x2F#8 = 3)
theorem EncodedLength.bmi (d : Byte) : EncodedLength.Statement (.bmi d) :=
  (rfl : lengthOf 0x30#8 = 2)
theorem EncodedLength.andIndY (z : Byte) : EncodedLength.Statement (.andIndY z) :=
  (rfl : lengthOf 0x31#8 = 2)
theorem EncodedLength.jam32 : EncodedLength.Statement .jam32 := (rfl : lengthOf 0x32#8 = 1)
theorem EncodedLength.rlaIndY (z : Byte) : EncodedLength.Statement (.rlaIndY z) :=
  (rfl : lengthOf 0x33#8 = 2)
theorem EncodedLength.nopZpX34 (z : Byte) : EncodedLength.Statement (.nopZpX34 z) :=
  (rfl : lengthOf 0x34#8 = 2)
theorem EncodedLength.andZpX (z : Byte) : EncodedLength.Statement (.andZpX z) :=
  (rfl : lengthOf 0x35#8 = 2)
theorem EncodedLength.rolZpX (z : Byte) : EncodedLength.Statement (.rolZpX z) :=
  (rfl : lengthOf 0x36#8 = 2)
theorem EncodedLength.rlaZpX (z : Byte) : EncodedLength.Statement (.rlaZpX z) :=
  (rfl : lengthOf 0x37#8 = 2)
theorem EncodedLength.sec : EncodedLength.Statement .sec := (rfl : lengthOf 0x38#8 = 1)
theorem EncodedLength.andAbsY (w : Addr) : EncodedLength.Statement (.andAbsY w) :=
  (rfl : lengthOf 0x39#8 = 3)
theorem EncodedLength.nop3A : EncodedLength.Statement .nop3A := (rfl : lengthOf 0x3A#8 = 1)
theorem EncodedLength.rlaAbsY (w : Addr) : EncodedLength.Statement (.rlaAbsY w) :=
  (rfl : lengthOf 0x3B#8 = 3)
theorem EncodedLength.nopAbsX3C (w : Addr) : EncodedLength.Statement (.nopAbsX3C w) :=
  (rfl : lengthOf 0x3C#8 = 3)
theorem EncodedLength.andAbsX (w : Addr) : EncodedLength.Statement (.andAbsX w) :=
  (rfl : lengthOf 0x3D#8 = 3)
theorem EncodedLength.rolAbsX (w : Addr) : EncodedLength.Statement (.rolAbsX w) :=
  (rfl : lengthOf 0x3E#8 = 3)
theorem EncodedLength.rlaAbsX (w : Addr) : EncodedLength.Statement (.rlaAbsX w) :=
  (rfl : lengthOf 0x3F#8 = 3)
theorem EncodedLength.rti : EncodedLength.Statement .rti := (rfl : lengthOf 0x40#8 = 1)
theorem EncodedLength.eorIndX (z : Byte) : EncodedLength.Statement (.eorIndX z) :=
  (rfl : lengthOf 0x41#8 = 2)
theorem EncodedLength.jam42 : EncodedLength.Statement .jam42 := (rfl : lengthOf 0x42#8 = 1)
theorem EncodedLength.sreIndX (z : Byte) : EncodedLength.Statement (.sreIndX z) :=
  (rfl : lengthOf 0x43#8 = 2)
theorem EncodedLength.nopZp44 (z : Byte) : EncodedLength.Statement (.nopZp44 z) :=
  (rfl : lengthOf 0x44#8 = 2)
theorem EncodedLength.eorZp (z : Byte) : EncodedLength.Statement (.eorZp z) :=
  (rfl : lengthOf 0x45#8 = 2)
theorem EncodedLength.lsrZp (z : Byte) : EncodedLength.Statement (.lsrZp z) :=
  (rfl : lengthOf 0x46#8 = 2)
theorem EncodedLength.sreZp (z : Byte) : EncodedLength.Statement (.sreZp z) :=
  (rfl : lengthOf 0x47#8 = 2)
theorem EncodedLength.pha : EncodedLength.Statement .pha := (rfl : lengthOf 0x48#8 = 1)
theorem EncodedLength.eorImm (m : Byte) : EncodedLength.Statement (.eorImm m) :=
  (rfl : lengthOf 0x49#8 = 2)
theorem EncodedLength.lsrA : EncodedLength.Statement .lsrA := (rfl : lengthOf 0x4A#8 = 1)
theorem EncodedLength.alr : EncodedLength.Statement .alr := (rfl : lengthOf 0x4B#8 = 1)
theorem EncodedLength.jmpAbs (w : Addr) : EncodedLength.Statement (.jmpAbs w) :=
  (rfl : lengthOf 0x4C#8 = 3)
theorem EncodedLength.eorAbs (w : Addr) : EncodedLength.Statement (.eorAbs w) :=
  (rfl : lengthOf 0x4D#8 = 3)
theorem EncodedLength.lsrAbs (w : Addr) : EncodedLength.Statement (.lsrAbs w) :=
  (rfl : lengthOf 0x4E#8 = 3)
theorem EncodedLength.sreAbs (w : Addr) : EncodedLength.Statement (.sreAbs w) :=
  (rfl : lengthOf 0x4F#8 = 3)
theorem EncodedLength.bvc (d : Byte) : EncodedLength.Statement (.bvc d) :=
  (rfl : lengthOf 0x50#8 = 2)
theorem EncodedLength.eorIndY (z : Byte) : EncodedLength.Statement (.eorIndY z) :=
  (rfl : lengthOf 0x51#8 = 2)
theorem EncodedLength.jam52 : EncodedLength.Statement .jam52 := (rfl : lengthOf 0x52#8 = 1)
theorem EncodedLength.sreIndY (z : Byte) : EncodedLength.Statement (.sreIndY z) :=
  (rfl : lengthOf 0x53#8 = 2)
theorem EncodedLength.nopZpX54 (z : Byte) : EncodedLength.Statement (.nopZpX54 z) :=
  (rfl : lengthOf 0x54#8 = 2)
theorem EncodedLength.eorZpX (z : Byte) : EncodedLength.Statement (.eorZpX z) :=
  (rfl : lengthOf 0x55#8 = 2)
theorem EncodedLength.lsrZpX (z : Byte) : EncodedLength.Statement (.lsrZpX z) :=
  (rfl : lengthOf 0x56#8 = 2)
theorem EncodedLength.sreZpX (z : Byte) : EncodedLength.Statement (.sreZpX z) :=
  (rfl : lengthOf 0x57#8 = 2)
theorem EncodedLength.cli : EncodedLength.Statement .cli := (rfl : lengthOf 0x58#8 = 1)
theorem EncodedLength.eorAbsY (w : Addr) : EncodedLength.Statement (.eorAbsY w) :=
  (rfl : lengthOf 0x59#8 = 3)
theorem EncodedLength.nop5A : EncodedLength.Statement .nop5A := (rfl : lengthOf 0x5A#8 = 1)
theorem EncodedLength.sreAbsY (w : Addr) : EncodedLength.Statement (.sreAbsY w) :=
  (rfl : lengthOf 0x5B#8 = 3)
theorem EncodedLength.nopAbsX5C (w : Addr) : EncodedLength.Statement (.nopAbsX5C w) :=
  (rfl : lengthOf 0x5C#8 = 3)
theorem EncodedLength.eorAbsX (w : Addr) : EncodedLength.Statement (.eorAbsX w) :=
  (rfl : lengthOf 0x5D#8 = 3)
theorem EncodedLength.lsrAbsX (w : Addr) : EncodedLength.Statement (.lsrAbsX w) :=
  (rfl : lengthOf 0x5E#8 = 3)
theorem EncodedLength.sreAbsX (w : Addr) : EncodedLength.Statement (.sreAbsX w) :=
  (rfl : lengthOf 0x5F#8 = 3)
theorem EncodedLength.rts : EncodedLength.Statement .rts := (rfl : lengthOf 0x60#8 = 1)
theorem EncodedLength.adcIndX (z : Byte) : EncodedLength.Statement (.adcIndX z) :=
  (rfl : lengthOf 0x61#8 = 2)
theorem EncodedLength.jam62 : EncodedLength.Statement .jam62 := (rfl : lengthOf 0x62#8 = 1)
theorem EncodedLength.rraIndX (z : Byte) : EncodedLength.Statement (.rraIndX z) :=
  (rfl : lengthOf 0x63#8 = 2)
theorem EncodedLength.nopZp64 (z : Byte) : EncodedLength.Statement (.nopZp64 z) :=
  (rfl : lengthOf 0x64#8 = 2)
theorem EncodedLength.adcZp (z : Byte) : EncodedLength.Statement (.adcZp z) :=
  (rfl : lengthOf 0x65#8 = 2)
theorem EncodedLength.rorZp (z : Byte) : EncodedLength.Statement (.rorZp z) :=
  (rfl : lengthOf 0x66#8 = 2)
theorem EncodedLength.rraZp (z : Byte) : EncodedLength.Statement (.rraZp z) :=
  (rfl : lengthOf 0x67#8 = 2)
theorem EncodedLength.pla : EncodedLength.Statement .pla := (rfl : lengthOf 0x68#8 = 1)
theorem EncodedLength.adcImm (m : Byte) : EncodedLength.Statement (.adcImm m) :=
  (rfl : lengthOf 0x69#8 = 2)
theorem EncodedLength.rorA : EncodedLength.Statement .rorA := (rfl : lengthOf 0x6A#8 = 1)
theorem EncodedLength.arr : EncodedLength.Statement .arr := (rfl : lengthOf 0x6B#8 = 1)
theorem EncodedLength.jmpInd (w : Addr) : EncodedLength.Statement (.jmpInd w) :=
  (rfl : lengthOf 0x6C#8 = 3)
theorem EncodedLength.adcAbs (w : Addr) : EncodedLength.Statement (.adcAbs w) :=
  (rfl : lengthOf 0x6D#8 = 3)
theorem EncodedLength.rorAbs (w : Addr) : EncodedLength.Statement (.rorAbs w) :=
  (rfl : lengthOf 0x6E#8 = 3)
theorem EncodedLength.rraAbs (w : Addr) : EncodedLength.Statement (.rraAbs w) :=
  (rfl : lengthOf 0x6F#8 = 3)
theorem EncodedLength.bvs (d : Byte) : EncodedLength.Statement (.bvs d) :=
  (rfl : lengthOf 0x70#8 = 2)
theorem EncodedLength.adcIndY (z : Byte) : EncodedLength.Statement (.adcIndY z) :=
  (rfl : lengthOf 0x71#8 = 2)
theorem EncodedLength.jam72 : EncodedLength.Statement .jam72 := (rfl : lengthOf 0x72#8 = 1)
theorem EncodedLength.rraIndY (z : Byte) : EncodedLength.Statement (.rraIndY z) :=
  (rfl : lengthOf 0x73#8 = 2)
theorem EncodedLength.nopZpX74 (z : Byte) : EncodedLength.Statement (.nopZpX74 z) :=
  (rfl : lengthOf 0x74#8 = 2)
theorem EncodedLength.adcZpX (z : Byte) : EncodedLength.Statement (.adcZpX z) :=
  (rfl : lengthOf 0x75#8 = 2)
theorem EncodedLength.rorZpX (z : Byte) : EncodedLength.Statement (.rorZpX z) :=
  (rfl : lengthOf 0x76#8 = 2)
theorem EncodedLength.rraZpX (z : Byte) : EncodedLength.Statement (.rraZpX z) :=
  (rfl : lengthOf 0x77#8 = 2)
theorem EncodedLength.sei : EncodedLength.Statement .sei := (rfl : lengthOf 0x78#8 = 1)
theorem EncodedLength.adcAbsY (w : Addr) : EncodedLength.Statement (.adcAbsY w) :=
  (rfl : lengthOf 0x79#8 = 3)
theorem EncodedLength.nop7A : EncodedLength.Statement .nop7A := (rfl : lengthOf 0x7A#8 = 1)
theorem EncodedLength.rraAbsY (w : Addr) : EncodedLength.Statement (.rraAbsY w) :=
  (rfl : lengthOf 0x7B#8 = 3)
theorem EncodedLength.nopAbsX7C (w : Addr) : EncodedLength.Statement (.nopAbsX7C w) :=
  (rfl : lengthOf 0x7C#8 = 3)
theorem EncodedLength.adcAbsX (w : Addr) : EncodedLength.Statement (.adcAbsX w) :=
  (rfl : lengthOf 0x7D#8 = 3)
theorem EncodedLength.rorAbsX (w : Addr) : EncodedLength.Statement (.rorAbsX w) :=
  (rfl : lengthOf 0x7E#8 = 3)
theorem EncodedLength.rraAbsX (w : Addr) : EncodedLength.Statement (.rraAbsX w) :=
  (rfl : lengthOf 0x7F#8 = 3)
theorem EncodedLength.nopImm80 (m : Byte) : EncodedLength.Statement (.nopImm80 m) :=
  (rfl : lengthOf 0x80#8 = 2)
theorem EncodedLength.staIndX (z : Byte) : EncodedLength.Statement (.staIndX z) :=
  (rfl : lengthOf 0x81#8 = 2)
theorem EncodedLength.nopImm82 (m : Byte) : EncodedLength.Statement (.nopImm82 m) :=
  (rfl : lengthOf 0x82#8 = 2)
theorem EncodedLength.saxIndX (z : Byte) : EncodedLength.Statement (.saxIndX z) :=
  (rfl : lengthOf 0x83#8 = 2)
theorem EncodedLength.styZp (z : Byte) : EncodedLength.Statement (.styZp z) :=
  (rfl : lengthOf 0x84#8 = 2)
theorem EncodedLength.staZp (z : Byte) : EncodedLength.Statement (.staZp z) :=
  (rfl : lengthOf 0x85#8 = 2)
theorem EncodedLength.stxZp (z : Byte) : EncodedLength.Statement (.stxZp z) :=
  (rfl : lengthOf 0x86#8 = 2)
theorem EncodedLength.saxZp (z : Byte) : EncodedLength.Statement (.saxZp z) :=
  (rfl : lengthOf 0x87#8 = 2)
theorem EncodedLength.dey : EncodedLength.Statement .dey := (rfl : lengthOf 0x88#8 = 1)
theorem EncodedLength.nopImm89 (m : Byte) : EncodedLength.Statement (.nopImm89 m) :=
  (rfl : lengthOf 0x89#8 = 2)
theorem EncodedLength.txa : EncodedLength.Statement .txa := (rfl : lengthOf 0x8A#8 = 1)
theorem EncodedLength.xaa : EncodedLength.Statement .xaa := (rfl : lengthOf 0x8B#8 = 1)
theorem EncodedLength.styAbs (w : Addr) : EncodedLength.Statement (.styAbs w) :=
  (rfl : lengthOf 0x8C#8 = 3)
theorem EncodedLength.staAbs (w : Addr) : EncodedLength.Statement (.staAbs w) :=
  (rfl : lengthOf 0x8D#8 = 3)
theorem EncodedLength.stxAbs (w : Addr) : EncodedLength.Statement (.stxAbs w) :=
  (rfl : lengthOf 0x8E#8 = 3)
theorem EncodedLength.saxAbs (w : Addr) : EncodedLength.Statement (.saxAbs w) :=
  (rfl : lengthOf 0x8F#8 = 3)
theorem EncodedLength.bcc (d : Byte) : EncodedLength.Statement (.bcc d) :=
  (rfl : lengthOf 0x90#8 = 2)
theorem EncodedLength.staIndY (z : Byte) : EncodedLength.Statement (.staIndY z) :=
  (rfl : lengthOf 0x91#8 = 2)
theorem EncodedLength.jam92 : EncodedLength.Statement .jam92 := (rfl : lengthOf 0x92#8 = 1)
theorem EncodedLength.ahx93 : EncodedLength.Statement .ahx93 := (rfl : lengthOf 0x93#8 = 1)
theorem EncodedLength.styZpX (z : Byte) : EncodedLength.Statement (.styZpX z) :=
  (rfl : lengthOf 0x94#8 = 2)
theorem EncodedLength.staZpX (z : Byte) : EncodedLength.Statement (.staZpX z) :=
  (rfl : lengthOf 0x95#8 = 2)
theorem EncodedLength.stxZpY (z : Byte) : EncodedLength.Statement (.stxZpY z) :=
  (rfl : lengthOf 0x96#8 = 2)
theorem EncodedLength.saxZpY (z : Byte) : EncodedLength.Statement (.saxZpY z) :=
  (rfl : lengthOf 0x97#8 = 2)
theorem EncodedLength.tya : EncodedLength.Statement .tya := (rfl : lengthOf 0x98#8 = 1)
theorem EncodedLength.staAbsY (w : Addr) : EncodedLength.Statement (.staAbsY w) :=
  (rfl : lengthOf 0x99#8 = 3)
theorem EncodedLength.txs : EncodedLength.Statement .txs := (rfl : lengthOf 0x9A#8 = 1)
theorem EncodedLength.tas : EncodedLength.Statement .tas := (rfl : lengthOf 0x9B#8 = 1)
theorem EncodedLength.shyAbsX (w : Addr) : EncodedLength.Statement (.shyAbsX w) :=
  (rfl : lengthOf 0x9C#8 = 3)
theorem EncodedLength.staAbsX (w : Addr) : EncodedLength.Statement (.staAbsX w) :=
  (rfl : lengthOf 0x9D#8 = 3)
theorem EncodedLength.shxAbsY (w : Addr) : EncodedLength.Statement (.shxAbsY w) :=
  (rfl : lengthOf 0x9E#8 = 3)
theorem EncodedLength.ahx9F : EncodedLength.Statement .ahx9F := (rfl : lengthOf 0x9F#8 = 1)
theorem EncodedLength.ldyImm (m : Byte) : EncodedLength.Statement (.ldyImm m) :=
  (rfl : lengthOf 0xA0#8 = 2)
theorem EncodedLength.ldaIndX (z : Byte) : EncodedLength.Statement (.ldaIndX z) :=
  (rfl : lengthOf 0xA1#8 = 2)
theorem EncodedLength.ldxImm (m : Byte) : EncodedLength.Statement (.ldxImm m) :=
  (rfl : lengthOf 0xA2#8 = 2)
theorem EncodedLength.laxIndX (z : Byte) : EncodedLength.Statement (.laxIndX z) :=
  (rfl : lengthOf 0xA3#8 = 2)
theorem EncodedLength.ldyZp (z : Byte) : EncodedLength.Statement (.ldyZp z) :=
  (rfl : lengthOf 0xA4#8 = 2)
theorem EncodedLength.ldaZp (z : Byte) : EncodedLength.Statement (.ldaZp z) :=
  (rfl : lengthOf 0xA5#8 = 2)
theorem EncodedLength.ldxZp (z : Byte) : EncodedLength.Statement (.ldxZp z) :=
  (rfl : lengthOf 0xA6#8 = 2)
theorem EncodedLength.laxZp (z : Byte) : EncodedLength.Statement (.laxZp z) :=
  (rfl : lengthOf 0xA7#8 = 2)
theorem EncodedLength.tay : EncodedLength.Statement .tay := (rfl : lengthOf 0xA8#8 = 1)
theorem EncodedLength.ldaImm (m : Byte) : EncodedLength.Statement (.ldaImm m) :=
  (rfl : lengthOf 0xA9#8 = 2)
theorem EncodedLength.tax : EncodedLength.Statement .tax := (rfl : lengthOf 0xAA#8 = 1)
theorem EncodedLength.lxa : EncodedLength.Statement .lxa := (rfl : lengthOf 0xAB#8 = 1)
theorem EncodedLength.ldyAbs (w : Addr) : EncodedLength.Statement (.ldyAbs w) :=
  (rfl : lengthOf 0xAC#8 = 3)
theorem EncodedLength.ldaAbs (w : Addr) : EncodedLength.Statement (.ldaAbs w) :=
  (rfl : lengthOf 0xAD#8 = 3)
theorem EncodedLength.ldxAbs (w : Addr) : EncodedLength.Statement (.ldxAbs w) :=
  (rfl : lengthOf 0xAE#8 = 3)
theorem EncodedLength.laxAbs (w : Addr) : EncodedLength.Statement (.laxAbs w) :=
  (rfl : lengthOf 0xAF#8 = 3)
theorem EncodedLength.bcs (d : Byte) : EncodedLength.Statement (.bcs d) :=
  (rfl : lengthOf 0xB0#8 = 2)
theorem EncodedLength.ldaIndY (z : Byte) : EncodedLength.Statement (.ldaIndY z) :=
  (rfl : lengthOf 0xB1#8 = 2)
theorem EncodedLength.jamB2 : EncodedLength.Statement .jamB2 := (rfl : lengthOf 0xB2#8 = 1)
theorem EncodedLength.laxIndY (z : Byte) : EncodedLength.Statement (.laxIndY z) :=
  (rfl : lengthOf 0xB3#8 = 2)
theorem EncodedLength.ldyZpX (z : Byte) : EncodedLength.Statement (.ldyZpX z) :=
  (rfl : lengthOf 0xB4#8 = 2)
theorem EncodedLength.ldaZpX (z : Byte) : EncodedLength.Statement (.ldaZpX z) :=
  (rfl : lengthOf 0xB5#8 = 2)
theorem EncodedLength.ldxZpY (z : Byte) : EncodedLength.Statement (.ldxZpY z) :=
  (rfl : lengthOf 0xB6#8 = 2)
theorem EncodedLength.laxZpY (z : Byte) : EncodedLength.Statement (.laxZpY z) :=
  (rfl : lengthOf 0xB7#8 = 2)
theorem EncodedLength.clv : EncodedLength.Statement .clv := (rfl : lengthOf 0xB8#8 = 1)
theorem EncodedLength.ldaAbsY (w : Addr) : EncodedLength.Statement (.ldaAbsY w) :=
  (rfl : lengthOf 0xB9#8 = 3)
theorem EncodedLength.tsx : EncodedLength.Statement .tsx := (rfl : lengthOf 0xBA#8 = 1)
theorem EncodedLength.las : EncodedLength.Statement .las := (rfl : lengthOf 0xBB#8 = 1)
theorem EncodedLength.ldyAbsX (w : Addr) : EncodedLength.Statement (.ldyAbsX w) :=
  (rfl : lengthOf 0xBC#8 = 3)
theorem EncodedLength.ldaAbsX (w : Addr) : EncodedLength.Statement (.ldaAbsX w) :=
  (rfl : lengthOf 0xBD#8 = 3)
theorem EncodedLength.ldxAbsY (w : Addr) : EncodedLength.Statement (.ldxAbsY w) :=
  (rfl : lengthOf 0xBE#8 = 3)
theorem EncodedLength.laxAbsY (w : Addr) : EncodedLength.Statement (.laxAbsY w) :=
  (rfl : lengthOf 0xBF#8 = 3)
theorem EncodedLength.cpyImm (m : Byte) : EncodedLength.Statement (.cpyImm m) :=
  (rfl : lengthOf 0xC0#8 = 2)
theorem EncodedLength.cmpIndX (z : Byte) : EncodedLength.Statement (.cmpIndX z) :=
  (rfl : lengthOf 0xC1#8 = 2)
theorem EncodedLength.nopImmC2 (m : Byte) : EncodedLength.Statement (.nopImmC2 m) :=
  (rfl : lengthOf 0xC2#8 = 2)
theorem EncodedLength.dcpIndX (z : Byte) : EncodedLength.Statement (.dcpIndX z) :=
  (rfl : lengthOf 0xC3#8 = 2)
theorem EncodedLength.cpyZp (z : Byte) : EncodedLength.Statement (.cpyZp z) :=
  (rfl : lengthOf 0xC4#8 = 2)
theorem EncodedLength.cmpZp (z : Byte) : EncodedLength.Statement (.cmpZp z) :=
  (rfl : lengthOf 0xC5#8 = 2)
theorem EncodedLength.decZp (z : Byte) : EncodedLength.Statement (.decZp z) :=
  (rfl : lengthOf 0xC6#8 = 2)
theorem EncodedLength.dcpZp (z : Byte) : EncodedLength.Statement (.dcpZp z) :=
  (rfl : lengthOf 0xC7#8 = 2)
theorem EncodedLength.iny : EncodedLength.Statement .iny := (rfl : lengthOf 0xC8#8 = 1)
theorem EncodedLength.cmpImm (m : Byte) : EncodedLength.Statement (.cmpImm m) :=
  (rfl : lengthOf 0xC9#8 = 2)
theorem EncodedLength.dex : EncodedLength.Statement .dex := (rfl : lengthOf 0xCA#8 = 1)
theorem EncodedLength.axs : EncodedLength.Statement .axs := (rfl : lengthOf 0xCB#8 = 1)
theorem EncodedLength.cpyAbs (w : Addr) : EncodedLength.Statement (.cpyAbs w) :=
  (rfl : lengthOf 0xCC#8 = 3)
theorem EncodedLength.cmpAbs (w : Addr) : EncodedLength.Statement (.cmpAbs w) :=
  (rfl : lengthOf 0xCD#8 = 3)
theorem EncodedLength.decAbs (w : Addr) : EncodedLength.Statement (.decAbs w) :=
  (rfl : lengthOf 0xCE#8 = 3)
theorem EncodedLength.dcpAbs (w : Addr) : EncodedLength.Statement (.dcpAbs w) :=
  (rfl : lengthOf 0xCF#8 = 3)
theorem EncodedLength.bne (d : Byte) : EncodedLength.Statement (.bne d) :=
  (rfl : lengthOf 0xD0#8 = 2)
theorem EncodedLength.cmpIndY (z : Byte) : EncodedLength.Statement (.cmpIndY z) :=
  (rfl : lengthOf 0xD1#8 = 2)
theorem EncodedLength.jamD2 : EncodedLength.Statement .jamD2 := (rfl : lengthOf 0xD2#8 = 1)
theorem EncodedLength.dcpIndY (z : Byte) : EncodedLength.Statement (.dcpIndY z) :=
  (rfl : lengthOf 0xD3#8 = 2)
theorem EncodedLength.nopZpXD4 (z : Byte) : EncodedLength.Statement (.nopZpXD4 z) :=
  (rfl : lengthOf 0xD4#8 = 2)
theorem EncodedLength.cmpZpX (z : Byte) : EncodedLength.Statement (.cmpZpX z) :=
  (rfl : lengthOf 0xD5#8 = 2)
theorem EncodedLength.decZpX (z : Byte) : EncodedLength.Statement (.decZpX z) :=
  (rfl : lengthOf 0xD6#8 = 2)
theorem EncodedLength.dcpZpX (z : Byte) : EncodedLength.Statement (.dcpZpX z) :=
  (rfl : lengthOf 0xD7#8 = 2)
theorem EncodedLength.cld : EncodedLength.Statement .cld := (rfl : lengthOf 0xD8#8 = 1)
theorem EncodedLength.cmpAbsY (w : Addr) : EncodedLength.Statement (.cmpAbsY w) :=
  (rfl : lengthOf 0xD9#8 = 3)
theorem EncodedLength.nopDA : EncodedLength.Statement .nopDA := (rfl : lengthOf 0xDA#8 = 1)
theorem EncodedLength.dcpAbsY (w : Addr) : EncodedLength.Statement (.dcpAbsY w) :=
  (rfl : lengthOf 0xDB#8 = 3)
theorem EncodedLength.nopAbsXDC (w : Addr) : EncodedLength.Statement (.nopAbsXDC w) :=
  (rfl : lengthOf 0xDC#8 = 3)
theorem EncodedLength.cmpAbsX (w : Addr) : EncodedLength.Statement (.cmpAbsX w) :=
  (rfl : lengthOf 0xDD#8 = 3)
theorem EncodedLength.decAbsX (w : Addr) : EncodedLength.Statement (.decAbsX w) :=
  (rfl : lengthOf 0xDE#8 = 3)
theorem EncodedLength.dcpAbsX (w : Addr) : EncodedLength.Statement (.dcpAbsX w) :=
  (rfl : lengthOf 0xDF#8 = 3)
theorem EncodedLength.cpxImm (m : Byte) : EncodedLength.Statement (.cpxImm m) :=
  (rfl : lengthOf 0xE0#8 = 2)
theorem EncodedLength.sbcIndX (z : Byte) : EncodedLength.Statement (.sbcIndX z) :=
  (rfl : lengthOf 0xE1#8 = 2)
theorem EncodedLength.nopImmE2 (m : Byte) : EncodedLength.Statement (.nopImmE2 m) :=
  (rfl : lengthOf 0xE2#8 = 2)
theorem EncodedLength.isbIndX (z : Byte) : EncodedLength.Statement (.isbIndX z) :=
  (rfl : lengthOf 0xE3#8 = 2)
theorem EncodedLength.cpxZp (z : Byte) : EncodedLength.Statement (.cpxZp z) :=
  (rfl : lengthOf 0xE4#8 = 2)
theorem EncodedLength.sbcZp (z : Byte) : EncodedLength.Statement (.sbcZp z) :=
  (rfl : lengthOf 0xE5#8 = 2)
theorem EncodedLength.incZp (z : Byte) : EncodedLength.Statement (.incZp z) :=
  (rfl : lengthOf 0xE6#8 = 2)
theorem EncodedLength.isbZp (z : Byte) : EncodedLength.Statement (.isbZp z) :=
  (rfl : lengthOf 0xE7#8 = 2)
theorem EncodedLength.inx : EncodedLength.Statement .inx := (rfl : lengthOf 0xE8#8 = 1)
theorem EncodedLength.sbcImm (m : Byte) : EncodedLength.Statement (.sbcImm m) :=
  (rfl : lengthOf 0xE9#8 = 2)
theorem EncodedLength.nop : EncodedLength.Statement .nop := (rfl : lengthOf 0xEA#8 = 1)
theorem EncodedLength.sbcImmEB (m : Byte) : EncodedLength.Statement (.sbcImmEB m) :=
  (rfl : lengthOf 0xEB#8 = 2)
theorem EncodedLength.cpxAbs (w : Addr) : EncodedLength.Statement (.cpxAbs w) :=
  (rfl : lengthOf 0xEC#8 = 3)
theorem EncodedLength.sbcAbs (w : Addr) : EncodedLength.Statement (.sbcAbs w) :=
  (rfl : lengthOf 0xED#8 = 3)
theorem EncodedLength.incAbs (w : Addr) : EncodedLength.Statement (.incAbs w) :=
  (rfl : lengthOf 0xEE#8 = 3)
theorem EncodedLength.isbAbs (w : Addr) : EncodedLength.Statement (.isbAbs w) :=
  (rfl : lengthOf 0xEF#8 = 3)
theorem EncodedLength.beq (d : Byte) : EncodedLength.Statement (.beq d) :=
  (rfl : lengthOf 0xF0#8 = 2)
theorem EncodedLength.sbcIndY (z : Byte) : EncodedLength.Statement (.sbcIndY z) :=
  (rfl : lengthOf 0xF1#8 = 2)
theorem EncodedLength.jamF2 : EncodedLength.Statement .jamF2 := (rfl : lengthOf 0xF2#8 = 1)
theorem EncodedLength.isbIndY (z : Byte) : EncodedLength.Statement (.isbIndY z) :=
  (rfl : lengthOf 0xF3#8 = 2)
theorem EncodedLength.nopZpXF4 (z : Byte) : EncodedLength.Statement (.nopZpXF4 z) :=
  (rfl : lengthOf 0xF4#8 = 2)
theorem EncodedLength.sbcZpX (z : Byte) : EncodedLength.Statement (.sbcZpX z) :=
  (rfl : lengthOf 0xF5#8 = 2)
theorem EncodedLength.incZpX (z : Byte) : EncodedLength.Statement (.incZpX z) :=
  (rfl : lengthOf 0xF6#8 = 2)
theorem EncodedLength.isbZpX (z : Byte) : EncodedLength.Statement (.isbZpX z) :=
  (rfl : lengthOf 0xF7#8 = 2)
theorem EncodedLength.sed : EncodedLength.Statement .sed := (rfl : lengthOf 0xF8#8 = 1)
theorem EncodedLength.sbcAbsY (w : Addr) : EncodedLength.Statement (.sbcAbsY w) :=
  (rfl : lengthOf 0xF9#8 = 3)
theorem EncodedLength.nopFA : EncodedLength.Statement .nopFA := (rfl : lengthOf 0xFA#8 = 1)
theorem EncodedLength.isbAbsY (w : Addr) : EncodedLength.Statement (.isbAbsY w) :=
  (rfl : lengthOf 0xFB#8 = 3)
theorem EncodedLength.nopAbsXFC (w : Addr) : EncodedLength.Statement (.nopAbsXFC w) :=
  (rfl : lengthOf 0xFC#8 = 3)
theorem EncodedLength.sbcAbsX (w : Addr) : EncodedLength.Statement (.sbcAbsX w) :=
  (rfl : lengthOf 0xFD#8 = 3)
theorem EncodedLength.incAbsX (w : Addr) : EncodedLength.Statement (.incAbsX w) :=
  (rfl : lengthOf 0xFE#8 = 3)
theorem EncodedLength.isbAbsX (w : Addr) : EncodedLength.Statement (.isbAbsX w) :=
  (rfl : lengthOf 0xFF#8 = 3)

theorem OperandsDecode.brk : OperandsDecode.Statement .brk := (rfl : decodeOp 0x00#8 0x00#8 0x00#8 = .brk)
theorem OperandsDecode.oraIndX (z : Byte) : OperandsDecode.Statement (.oraIndX z) :=
  (rfl : decodeOp 0x01#8 z 0x00#8 = .oraIndX z)
theorem OperandsDecode.jam02 : OperandsDecode.Statement .jam02 := (rfl : decodeOp 0x02#8 0x00#8 0x00#8 = .jam02)
theorem OperandsDecode.sloIndX (z : Byte) : OperandsDecode.Statement (.sloIndX z) :=
  (rfl : decodeOp 0x03#8 z 0x00#8 = .sloIndX z)
theorem OperandsDecode.nopZp04 (z : Byte) : OperandsDecode.Statement (.nopZp04 z) :=
  (rfl : decodeOp 0x04#8 z 0x00#8 = .nopZp04 z)
theorem OperandsDecode.oraZp (z : Byte) : OperandsDecode.Statement (.oraZp z) :=
  (rfl : decodeOp 0x05#8 z 0x00#8 = .oraZp z)
theorem OperandsDecode.aslZp (z : Byte) : OperandsDecode.Statement (.aslZp z) :=
  (rfl : decodeOp 0x06#8 z 0x00#8 = .aslZp z)
theorem OperandsDecode.sloZp (z : Byte) : OperandsDecode.Statement (.sloZp z) :=
  (rfl : decodeOp 0x07#8 z 0x00#8 = .sloZp z)
theorem OperandsDecode.php : OperandsDecode.Statement .php := (rfl : decodeOp 0x08#8 0x00#8 0x00#8 = .php)
theorem OperandsDecode.oraImm (m : Byte) : OperandsDecode.Statement (.oraImm m) :=
  (rfl : decodeOp 0x09#8 m 0x00#8 = .oraImm m)
theorem OperandsDecode.aslA : OperandsDecode.Statement .aslA := (rfl : decodeOp 0x0A#8 0x00#8 0x00#8 = .aslA)
theorem OperandsDecode.ancImm0B (m : Byte) : OperandsDecode.Statement (.ancImm0B m) :=
  (rfl : decodeOp 0x0B#8 m 0x00#8 = .ancImm0B m)
theorem OperandsDecode.nopAbs0C (w : Addr) : OperandsDecode.Statement (.nopAbs0C w) :=
  show decodeOp 0x0C#8 (lo w) (hi w) = .nopAbs0C w from
    congrArg Instr.nopAbs0C (word_hi_lo w)
theorem OperandsDecode.oraAbs (w : Addr) : OperandsDecode.Statement (.oraAbs w) :=
  show decodeOp 0x0D#8 (lo w) (hi w) = .oraAbs w from
    congrArg Instr.oraAbs (word_hi_lo w)
theorem OperandsDecode.aslAbs (w : Addr) : OperandsDecode.Statement (.aslAbs w) :=
  show decodeOp 0x0E#8 (lo w) (hi w) = .aslAbs w from
    congrArg Instr.aslAbs (word_hi_lo w)
theorem OperandsDecode.sloAbs (w : Addr) : OperandsDecode.Statement (.sloAbs w) :=
  show decodeOp 0x0F#8 (lo w) (hi w) = .sloAbs w from
    congrArg Instr.sloAbs (word_hi_lo w)
theorem OperandsDecode.bpl (d : Byte) : OperandsDecode.Statement (.bpl d) :=
  (rfl : decodeOp 0x10#8 d 0x00#8 = .bpl d)
theorem OperandsDecode.oraIndY (z : Byte) : OperandsDecode.Statement (.oraIndY z) :=
  (rfl : decodeOp 0x11#8 z 0x00#8 = .oraIndY z)
theorem OperandsDecode.jam12 : OperandsDecode.Statement .jam12 := (rfl : decodeOp 0x12#8 0x00#8 0x00#8 = .jam12)
theorem OperandsDecode.sloIndY (z : Byte) : OperandsDecode.Statement (.sloIndY z) :=
  (rfl : decodeOp 0x13#8 z 0x00#8 = .sloIndY z)
theorem OperandsDecode.nopZpX14 (z : Byte) : OperandsDecode.Statement (.nopZpX14 z) :=
  (rfl : decodeOp 0x14#8 z 0x00#8 = .nopZpX14 z)
theorem OperandsDecode.oraZpX (z : Byte) : OperandsDecode.Statement (.oraZpX z) :=
  (rfl : decodeOp 0x15#8 z 0x00#8 = .oraZpX z)
theorem OperandsDecode.aslZpX (z : Byte) : OperandsDecode.Statement (.aslZpX z) :=
  (rfl : decodeOp 0x16#8 z 0x00#8 = .aslZpX z)
theorem OperandsDecode.sloZpX (z : Byte) : OperandsDecode.Statement (.sloZpX z) :=
  (rfl : decodeOp 0x17#8 z 0x00#8 = .sloZpX z)
theorem OperandsDecode.clc : OperandsDecode.Statement .clc := (rfl : decodeOp 0x18#8 0x00#8 0x00#8 = .clc)
theorem OperandsDecode.oraAbsY (w : Addr) : OperandsDecode.Statement (.oraAbsY w) :=
  show decodeOp 0x19#8 (lo w) (hi w) = .oraAbsY w from
    congrArg Instr.oraAbsY (word_hi_lo w)
theorem OperandsDecode.nop1A : OperandsDecode.Statement .nop1A := (rfl : decodeOp 0x1A#8 0x00#8 0x00#8 = .nop1A)
theorem OperandsDecode.sloAbsY (w : Addr) : OperandsDecode.Statement (.sloAbsY w) :=
  show decodeOp 0x1B#8 (lo w) (hi w) = .sloAbsY w from
    congrArg Instr.sloAbsY (word_hi_lo w)
theorem OperandsDecode.nopAbsX1C (w : Addr) : OperandsDecode.Statement (.nopAbsX1C w) :=
  show decodeOp 0x1C#8 (lo w) (hi w) = .nopAbsX1C w from
    congrArg Instr.nopAbsX1C (word_hi_lo w)
theorem OperandsDecode.oraAbsX (w : Addr) : OperandsDecode.Statement (.oraAbsX w) :=
  show decodeOp 0x1D#8 (lo w) (hi w) = .oraAbsX w from
    congrArg Instr.oraAbsX (word_hi_lo w)
theorem OperandsDecode.aslAbsX (w : Addr) : OperandsDecode.Statement (.aslAbsX w) :=
  show decodeOp 0x1E#8 (lo w) (hi w) = .aslAbsX w from
    congrArg Instr.aslAbsX (word_hi_lo w)
theorem OperandsDecode.sloAbsX (w : Addr) : OperandsDecode.Statement (.sloAbsX w) :=
  show decodeOp 0x1F#8 (lo w) (hi w) = .sloAbsX w from
    congrArg Instr.sloAbsX (word_hi_lo w)
theorem OperandsDecode.jsr (w : Addr) : OperandsDecode.Statement (.jsr w) :=
  show decodeOp 0x20#8 (lo w) (hi w) = .jsr w from
    congrArg Instr.jsr (word_hi_lo w)
theorem OperandsDecode.andIndX (z : Byte) : OperandsDecode.Statement (.andIndX z) :=
  (rfl : decodeOp 0x21#8 z 0x00#8 = .andIndX z)
theorem OperandsDecode.jam22 : OperandsDecode.Statement .jam22 := (rfl : decodeOp 0x22#8 0x00#8 0x00#8 = .jam22)
theorem OperandsDecode.rlaIndX (z : Byte) : OperandsDecode.Statement (.rlaIndX z) :=
  (rfl : decodeOp 0x23#8 z 0x00#8 = .rlaIndX z)
theorem OperandsDecode.bitZp (z : Byte) : OperandsDecode.Statement (.bitZp z) :=
  (rfl : decodeOp 0x24#8 z 0x00#8 = .bitZp z)
theorem OperandsDecode.andZp (z : Byte) : OperandsDecode.Statement (.andZp z) :=
  (rfl : decodeOp 0x25#8 z 0x00#8 = .andZp z)
theorem OperandsDecode.rolZp (z : Byte) : OperandsDecode.Statement (.rolZp z) :=
  (rfl : decodeOp 0x26#8 z 0x00#8 = .rolZp z)
theorem OperandsDecode.rlaZp (z : Byte) : OperandsDecode.Statement (.rlaZp z) :=
  (rfl : decodeOp 0x27#8 z 0x00#8 = .rlaZp z)
theorem OperandsDecode.plp : OperandsDecode.Statement .plp := (rfl : decodeOp 0x28#8 0x00#8 0x00#8 = .plp)
theorem OperandsDecode.andImm (m : Byte) : OperandsDecode.Statement (.andImm m) :=
  (rfl : decodeOp 0x29#8 m 0x00#8 = .andImm m)
theorem OperandsDecode.rolA : OperandsDecode.Statement .rolA := (rfl : decodeOp 0x2A#8 0x00#8 0x00#8 = .rolA)
theorem OperandsDecode.ancImm2B (m : Byte) : OperandsDecode.Statement (.ancImm2B m) :=
  (rfl : decodeOp 0x2B#8 m 0x00#8 = .ancImm2B m)
theorem OperandsDecode.bitAbs (w : Addr) : OperandsDecode.Statement (.bitAbs w) :=
  show decodeOp 0x2C#8 (lo w) (hi w) = .bitAbs w from
    congrArg Instr.bitAbs (word_hi_lo w)
theorem OperandsDecode.andAbs (w : Addr) : OperandsDecode.Statement (.andAbs w) :=
  show decodeOp 0x2D#8 (lo w) (hi w) = .andAbs w from
    congrArg Instr.andAbs (word_hi_lo w)
theorem OperandsDecode.rolAbs (w : Addr) : OperandsDecode.Statement (.rolAbs w) :=
  show decodeOp 0x2E#8 (lo w) (hi w) = .rolAbs w from
    congrArg Instr.rolAbs (word_hi_lo w)
theorem OperandsDecode.rlaAbs (w : Addr) : OperandsDecode.Statement (.rlaAbs w) :=
  show decodeOp 0x2F#8 (lo w) (hi w) = .rlaAbs w from
    congrArg Instr.rlaAbs (word_hi_lo w)
theorem OperandsDecode.bmi (d : Byte) : OperandsDecode.Statement (.bmi d) :=
  (rfl : decodeOp 0x30#8 d 0x00#8 = .bmi d)
theorem OperandsDecode.andIndY (z : Byte) : OperandsDecode.Statement (.andIndY z) :=
  (rfl : decodeOp 0x31#8 z 0x00#8 = .andIndY z)
theorem OperandsDecode.jam32 : OperandsDecode.Statement .jam32 := (rfl : decodeOp 0x32#8 0x00#8 0x00#8 = .jam32)
theorem OperandsDecode.rlaIndY (z : Byte) : OperandsDecode.Statement (.rlaIndY z) :=
  (rfl : decodeOp 0x33#8 z 0x00#8 = .rlaIndY z)
theorem OperandsDecode.nopZpX34 (z : Byte) : OperandsDecode.Statement (.nopZpX34 z) :=
  (rfl : decodeOp 0x34#8 z 0x00#8 = .nopZpX34 z)
theorem OperandsDecode.andZpX (z : Byte) : OperandsDecode.Statement (.andZpX z) :=
  (rfl : decodeOp 0x35#8 z 0x00#8 = .andZpX z)
theorem OperandsDecode.rolZpX (z : Byte) : OperandsDecode.Statement (.rolZpX z) :=
  (rfl : decodeOp 0x36#8 z 0x00#8 = .rolZpX z)
theorem OperandsDecode.rlaZpX (z : Byte) : OperandsDecode.Statement (.rlaZpX z) :=
  (rfl : decodeOp 0x37#8 z 0x00#8 = .rlaZpX z)
theorem OperandsDecode.sec : OperandsDecode.Statement .sec := (rfl : decodeOp 0x38#8 0x00#8 0x00#8 = .sec)
theorem OperandsDecode.andAbsY (w : Addr) : OperandsDecode.Statement (.andAbsY w) :=
  show decodeOp 0x39#8 (lo w) (hi w) = .andAbsY w from
    congrArg Instr.andAbsY (word_hi_lo w)
theorem OperandsDecode.nop3A : OperandsDecode.Statement .nop3A := (rfl : decodeOp 0x3A#8 0x00#8 0x00#8 = .nop3A)
theorem OperandsDecode.rlaAbsY (w : Addr) : OperandsDecode.Statement (.rlaAbsY w) :=
  show decodeOp 0x3B#8 (lo w) (hi w) = .rlaAbsY w from
    congrArg Instr.rlaAbsY (word_hi_lo w)
theorem OperandsDecode.nopAbsX3C (w : Addr) : OperandsDecode.Statement (.nopAbsX3C w) :=
  show decodeOp 0x3C#8 (lo w) (hi w) = .nopAbsX3C w from
    congrArg Instr.nopAbsX3C (word_hi_lo w)
theorem OperandsDecode.andAbsX (w : Addr) : OperandsDecode.Statement (.andAbsX w) :=
  show decodeOp 0x3D#8 (lo w) (hi w) = .andAbsX w from
    congrArg Instr.andAbsX (word_hi_lo w)
theorem OperandsDecode.rolAbsX (w : Addr) : OperandsDecode.Statement (.rolAbsX w) :=
  show decodeOp 0x3E#8 (lo w) (hi w) = .rolAbsX w from
    congrArg Instr.rolAbsX (word_hi_lo w)
theorem OperandsDecode.rlaAbsX (w : Addr) : OperandsDecode.Statement (.rlaAbsX w) :=
  show decodeOp 0x3F#8 (lo w) (hi w) = .rlaAbsX w from
    congrArg Instr.rlaAbsX (word_hi_lo w)
theorem OperandsDecode.rti : OperandsDecode.Statement .rti := (rfl : decodeOp 0x40#8 0x00#8 0x00#8 = .rti)
theorem OperandsDecode.eorIndX (z : Byte) : OperandsDecode.Statement (.eorIndX z) :=
  (rfl : decodeOp 0x41#8 z 0x00#8 = .eorIndX z)
theorem OperandsDecode.jam42 : OperandsDecode.Statement .jam42 := (rfl : decodeOp 0x42#8 0x00#8 0x00#8 = .jam42)
theorem OperandsDecode.sreIndX (z : Byte) : OperandsDecode.Statement (.sreIndX z) :=
  (rfl : decodeOp 0x43#8 z 0x00#8 = .sreIndX z)
theorem OperandsDecode.nopZp44 (z : Byte) : OperandsDecode.Statement (.nopZp44 z) :=
  (rfl : decodeOp 0x44#8 z 0x00#8 = .nopZp44 z)
theorem OperandsDecode.eorZp (z : Byte) : OperandsDecode.Statement (.eorZp z) :=
  (rfl : decodeOp 0x45#8 z 0x00#8 = .eorZp z)
theorem OperandsDecode.lsrZp (z : Byte) : OperandsDecode.Statement (.lsrZp z) :=
  (rfl : decodeOp 0x46#8 z 0x00#8 = .lsrZp z)
theorem OperandsDecode.sreZp (z : Byte) : OperandsDecode.Statement (.sreZp z) :=
  (rfl : decodeOp 0x47#8 z 0x00#8 = .sreZp z)
theorem OperandsDecode.pha : OperandsDecode.Statement .pha := (rfl : decodeOp 0x48#8 0x00#8 0x00#8 = .pha)
theorem OperandsDecode.eorImm (m : Byte) : OperandsDecode.Statement (.eorImm m) :=
  (rfl : decodeOp 0x49#8 m 0x00#8 = .eorImm m)
theorem OperandsDecode.lsrA : OperandsDecode.Statement .lsrA := (rfl : decodeOp 0x4A#8 0x00#8 0x00#8 = .lsrA)
theorem OperandsDecode.alr : OperandsDecode.Statement .alr := (rfl : decodeOp 0x4B#8 0x00#8 0x00#8 = .alr)
theorem OperandsDecode.jmpAbs (w : Addr) : OperandsDecode.Statement (.jmpAbs w) :=
  show decodeOp 0x4C#8 (lo w) (hi w) = .jmpAbs w from
    congrArg Instr.jmpAbs (word_hi_lo w)
theorem OperandsDecode.eorAbs (w : Addr) : OperandsDecode.Statement (.eorAbs w) :=
  show decodeOp 0x4D#8 (lo w) (hi w) = .eorAbs w from
    congrArg Instr.eorAbs (word_hi_lo w)
theorem OperandsDecode.lsrAbs (w : Addr) : OperandsDecode.Statement (.lsrAbs w) :=
  show decodeOp 0x4E#8 (lo w) (hi w) = .lsrAbs w from
    congrArg Instr.lsrAbs (word_hi_lo w)
theorem OperandsDecode.sreAbs (w : Addr) : OperandsDecode.Statement (.sreAbs w) :=
  show decodeOp 0x4F#8 (lo w) (hi w) = .sreAbs w from
    congrArg Instr.sreAbs (word_hi_lo w)
theorem OperandsDecode.bvc (d : Byte) : OperandsDecode.Statement (.bvc d) :=
  (rfl : decodeOp 0x50#8 d 0x00#8 = .bvc d)
theorem OperandsDecode.eorIndY (z : Byte) : OperandsDecode.Statement (.eorIndY z) :=
  (rfl : decodeOp 0x51#8 z 0x00#8 = .eorIndY z)
theorem OperandsDecode.jam52 : OperandsDecode.Statement .jam52 := (rfl : decodeOp 0x52#8 0x00#8 0x00#8 = .jam52)
theorem OperandsDecode.sreIndY (z : Byte) : OperandsDecode.Statement (.sreIndY z) :=
  (rfl : decodeOp 0x53#8 z 0x00#8 = .sreIndY z)
theorem OperandsDecode.nopZpX54 (z : Byte) : OperandsDecode.Statement (.nopZpX54 z) :=
  (rfl : decodeOp 0x54#8 z 0x00#8 = .nopZpX54 z)
theorem OperandsDecode.eorZpX (z : Byte) : OperandsDecode.Statement (.eorZpX z) :=
  (rfl : decodeOp 0x55#8 z 0x00#8 = .eorZpX z)
theorem OperandsDecode.lsrZpX (z : Byte) : OperandsDecode.Statement (.lsrZpX z) :=
  (rfl : decodeOp 0x56#8 z 0x00#8 = .lsrZpX z)
theorem OperandsDecode.sreZpX (z : Byte) : OperandsDecode.Statement (.sreZpX z) :=
  (rfl : decodeOp 0x57#8 z 0x00#8 = .sreZpX z)
theorem OperandsDecode.cli : OperandsDecode.Statement .cli := (rfl : decodeOp 0x58#8 0x00#8 0x00#8 = .cli)
theorem OperandsDecode.eorAbsY (w : Addr) : OperandsDecode.Statement (.eorAbsY w) :=
  show decodeOp 0x59#8 (lo w) (hi w) = .eorAbsY w from
    congrArg Instr.eorAbsY (word_hi_lo w)
theorem OperandsDecode.nop5A : OperandsDecode.Statement .nop5A := (rfl : decodeOp 0x5A#8 0x00#8 0x00#8 = .nop5A)
theorem OperandsDecode.sreAbsY (w : Addr) : OperandsDecode.Statement (.sreAbsY w) :=
  show decodeOp 0x5B#8 (lo w) (hi w) = .sreAbsY w from
    congrArg Instr.sreAbsY (word_hi_lo w)
theorem OperandsDecode.nopAbsX5C (w : Addr) : OperandsDecode.Statement (.nopAbsX5C w) :=
  show decodeOp 0x5C#8 (lo w) (hi w) = .nopAbsX5C w from
    congrArg Instr.nopAbsX5C (word_hi_lo w)
theorem OperandsDecode.eorAbsX (w : Addr) : OperandsDecode.Statement (.eorAbsX w) :=
  show decodeOp 0x5D#8 (lo w) (hi w) = .eorAbsX w from
    congrArg Instr.eorAbsX (word_hi_lo w)
theorem OperandsDecode.lsrAbsX (w : Addr) : OperandsDecode.Statement (.lsrAbsX w) :=
  show decodeOp 0x5E#8 (lo w) (hi w) = .lsrAbsX w from
    congrArg Instr.lsrAbsX (word_hi_lo w)
theorem OperandsDecode.sreAbsX (w : Addr) : OperandsDecode.Statement (.sreAbsX w) :=
  show decodeOp 0x5F#8 (lo w) (hi w) = .sreAbsX w from
    congrArg Instr.sreAbsX (word_hi_lo w)
theorem OperandsDecode.rts : OperandsDecode.Statement .rts := (rfl : decodeOp 0x60#8 0x00#8 0x00#8 = .rts)
theorem OperandsDecode.adcIndX (z : Byte) : OperandsDecode.Statement (.adcIndX z) :=
  (rfl : decodeOp 0x61#8 z 0x00#8 = .adcIndX z)
theorem OperandsDecode.jam62 : OperandsDecode.Statement .jam62 := (rfl : decodeOp 0x62#8 0x00#8 0x00#8 = .jam62)
theorem OperandsDecode.rraIndX (z : Byte) : OperandsDecode.Statement (.rraIndX z) :=
  (rfl : decodeOp 0x63#8 z 0x00#8 = .rraIndX z)
theorem OperandsDecode.nopZp64 (z : Byte) : OperandsDecode.Statement (.nopZp64 z) :=
  (rfl : decodeOp 0x64#8 z 0x00#8 = .nopZp64 z)
theorem OperandsDecode.adcZp (z : Byte) : OperandsDecode.Statement (.adcZp z) :=
  (rfl : decodeOp 0x65#8 z 0x00#8 = .adcZp z)
theorem OperandsDecode.rorZp (z : Byte) : OperandsDecode.Statement (.rorZp z) :=
  (rfl : decodeOp 0x66#8 z 0x00#8 = .rorZp z)
theorem OperandsDecode.rraZp (z : Byte) : OperandsDecode.Statement (.rraZp z) :=
  (rfl : decodeOp 0x67#8 z 0x00#8 = .rraZp z)
theorem OperandsDecode.pla : OperandsDecode.Statement .pla := (rfl : decodeOp 0x68#8 0x00#8 0x00#8 = .pla)
theorem OperandsDecode.adcImm (m : Byte) : OperandsDecode.Statement (.adcImm m) :=
  (rfl : decodeOp 0x69#8 m 0x00#8 = .adcImm m)
theorem OperandsDecode.rorA : OperandsDecode.Statement .rorA := (rfl : decodeOp 0x6A#8 0x00#8 0x00#8 = .rorA)
theorem OperandsDecode.arr : OperandsDecode.Statement .arr := (rfl : decodeOp 0x6B#8 0x00#8 0x00#8 = .arr)
theorem OperandsDecode.jmpInd (w : Addr) : OperandsDecode.Statement (.jmpInd w) :=
  show decodeOp 0x6C#8 (lo w) (hi w) = .jmpInd w from
    congrArg Instr.jmpInd (word_hi_lo w)
theorem OperandsDecode.adcAbs (w : Addr) : OperandsDecode.Statement (.adcAbs w) :=
  show decodeOp 0x6D#8 (lo w) (hi w) = .adcAbs w from
    congrArg Instr.adcAbs (word_hi_lo w)
theorem OperandsDecode.rorAbs (w : Addr) : OperandsDecode.Statement (.rorAbs w) :=
  show decodeOp 0x6E#8 (lo w) (hi w) = .rorAbs w from
    congrArg Instr.rorAbs (word_hi_lo w)
theorem OperandsDecode.rraAbs (w : Addr) : OperandsDecode.Statement (.rraAbs w) :=
  show decodeOp 0x6F#8 (lo w) (hi w) = .rraAbs w from
    congrArg Instr.rraAbs (word_hi_lo w)
theorem OperandsDecode.bvs (d : Byte) : OperandsDecode.Statement (.bvs d) :=
  (rfl : decodeOp 0x70#8 d 0x00#8 = .bvs d)
theorem OperandsDecode.adcIndY (z : Byte) : OperandsDecode.Statement (.adcIndY z) :=
  (rfl : decodeOp 0x71#8 z 0x00#8 = .adcIndY z)
theorem OperandsDecode.jam72 : OperandsDecode.Statement .jam72 := (rfl : decodeOp 0x72#8 0x00#8 0x00#8 = .jam72)
theorem OperandsDecode.rraIndY (z : Byte) : OperandsDecode.Statement (.rraIndY z) :=
  (rfl : decodeOp 0x73#8 z 0x00#8 = .rraIndY z)
theorem OperandsDecode.nopZpX74 (z : Byte) : OperandsDecode.Statement (.nopZpX74 z) :=
  (rfl : decodeOp 0x74#8 z 0x00#8 = .nopZpX74 z)
theorem OperandsDecode.adcZpX (z : Byte) : OperandsDecode.Statement (.adcZpX z) :=
  (rfl : decodeOp 0x75#8 z 0x00#8 = .adcZpX z)
theorem OperandsDecode.rorZpX (z : Byte) : OperandsDecode.Statement (.rorZpX z) :=
  (rfl : decodeOp 0x76#8 z 0x00#8 = .rorZpX z)
theorem OperandsDecode.rraZpX (z : Byte) : OperandsDecode.Statement (.rraZpX z) :=
  (rfl : decodeOp 0x77#8 z 0x00#8 = .rraZpX z)
theorem OperandsDecode.sei : OperandsDecode.Statement .sei := (rfl : decodeOp 0x78#8 0x00#8 0x00#8 = .sei)
theorem OperandsDecode.adcAbsY (w : Addr) : OperandsDecode.Statement (.adcAbsY w) :=
  show decodeOp 0x79#8 (lo w) (hi w) = .adcAbsY w from
    congrArg Instr.adcAbsY (word_hi_lo w)
theorem OperandsDecode.nop7A : OperandsDecode.Statement .nop7A := (rfl : decodeOp 0x7A#8 0x00#8 0x00#8 = .nop7A)
theorem OperandsDecode.rraAbsY (w : Addr) : OperandsDecode.Statement (.rraAbsY w) :=
  show decodeOp 0x7B#8 (lo w) (hi w) = .rraAbsY w from
    congrArg Instr.rraAbsY (word_hi_lo w)
theorem OperandsDecode.nopAbsX7C (w : Addr) : OperandsDecode.Statement (.nopAbsX7C w) :=
  show decodeOp 0x7C#8 (lo w) (hi w) = .nopAbsX7C w from
    congrArg Instr.nopAbsX7C (word_hi_lo w)
theorem OperandsDecode.adcAbsX (w : Addr) : OperandsDecode.Statement (.adcAbsX w) :=
  show decodeOp 0x7D#8 (lo w) (hi w) = .adcAbsX w from
    congrArg Instr.adcAbsX (word_hi_lo w)
theorem OperandsDecode.rorAbsX (w : Addr) : OperandsDecode.Statement (.rorAbsX w) :=
  show decodeOp 0x7E#8 (lo w) (hi w) = .rorAbsX w from
    congrArg Instr.rorAbsX (word_hi_lo w)
theorem OperandsDecode.rraAbsX (w : Addr) : OperandsDecode.Statement (.rraAbsX w) :=
  show decodeOp 0x7F#8 (lo w) (hi w) = .rraAbsX w from
    congrArg Instr.rraAbsX (word_hi_lo w)
theorem OperandsDecode.nopImm80 (m : Byte) : OperandsDecode.Statement (.nopImm80 m) :=
  (rfl : decodeOp 0x80#8 m 0x00#8 = .nopImm80 m)
theorem OperandsDecode.staIndX (z : Byte) : OperandsDecode.Statement (.staIndX z) :=
  (rfl : decodeOp 0x81#8 z 0x00#8 = .staIndX z)
theorem OperandsDecode.nopImm82 (m : Byte) : OperandsDecode.Statement (.nopImm82 m) :=
  (rfl : decodeOp 0x82#8 m 0x00#8 = .nopImm82 m)
theorem OperandsDecode.saxIndX (z : Byte) : OperandsDecode.Statement (.saxIndX z) :=
  (rfl : decodeOp 0x83#8 z 0x00#8 = .saxIndX z)
theorem OperandsDecode.styZp (z : Byte) : OperandsDecode.Statement (.styZp z) :=
  (rfl : decodeOp 0x84#8 z 0x00#8 = .styZp z)
theorem OperandsDecode.staZp (z : Byte) : OperandsDecode.Statement (.staZp z) :=
  (rfl : decodeOp 0x85#8 z 0x00#8 = .staZp z)
theorem OperandsDecode.stxZp (z : Byte) : OperandsDecode.Statement (.stxZp z) :=
  (rfl : decodeOp 0x86#8 z 0x00#8 = .stxZp z)
theorem OperandsDecode.saxZp (z : Byte) : OperandsDecode.Statement (.saxZp z) :=
  (rfl : decodeOp 0x87#8 z 0x00#8 = .saxZp z)
theorem OperandsDecode.dey : OperandsDecode.Statement .dey := (rfl : decodeOp 0x88#8 0x00#8 0x00#8 = .dey)
theorem OperandsDecode.nopImm89 (m : Byte) : OperandsDecode.Statement (.nopImm89 m) :=
  (rfl : decodeOp 0x89#8 m 0x00#8 = .nopImm89 m)
theorem OperandsDecode.txa : OperandsDecode.Statement .txa := (rfl : decodeOp 0x8A#8 0x00#8 0x00#8 = .txa)
theorem OperandsDecode.xaa : OperandsDecode.Statement .xaa := (rfl : decodeOp 0x8B#8 0x00#8 0x00#8 = .xaa)
theorem OperandsDecode.styAbs (w : Addr) : OperandsDecode.Statement (.styAbs w) :=
  show decodeOp 0x8C#8 (lo w) (hi w) = .styAbs w from
    congrArg Instr.styAbs (word_hi_lo w)
theorem OperandsDecode.staAbs (w : Addr) : OperandsDecode.Statement (.staAbs w) :=
  show decodeOp 0x8D#8 (lo w) (hi w) = .staAbs w from
    congrArg Instr.staAbs (word_hi_lo w)
theorem OperandsDecode.stxAbs (w : Addr) : OperandsDecode.Statement (.stxAbs w) :=
  show decodeOp 0x8E#8 (lo w) (hi w) = .stxAbs w from
    congrArg Instr.stxAbs (word_hi_lo w)
theorem OperandsDecode.saxAbs (w : Addr) : OperandsDecode.Statement (.saxAbs w) :=
  show decodeOp 0x8F#8 (lo w) (hi w) = .saxAbs w from
    congrArg Instr.saxAbs (word_hi_lo w)
theorem OperandsDecode.bcc (d : Byte) : OperandsDecode.Statement (.bcc d) :=
  (rfl : decodeOp 0x90#8 d 0x00#8 = .bcc d)
theorem OperandsDecode.staIndY (z : Byte) : OperandsDecode.Statement (.staIndY z) :=
  (rfl : decodeOp 0x91#8 z 0x00#8 = .staIndY z)
theorem OperandsDecode.jam92 : OperandsDecode.Statement .jam92 := (rfl : decodeOp 0x92#8 0x00#8 0x00#8 = .jam92)
theorem OperandsDecode.ahx93 : OperandsDecode.Statement .ahx93 := (rfl : decodeOp 0x93#8 0x00#8 0x00#8 = .ahx93)
theorem OperandsDecode.styZpX (z : Byte) : OperandsDecode.Statement (.styZpX z) :=
  (rfl : decodeOp 0x94#8 z 0x00#8 = .styZpX z)
theorem OperandsDecode.staZpX (z : Byte) : OperandsDecode.Statement (.staZpX z) :=
  (rfl : decodeOp 0x95#8 z 0x00#8 = .staZpX z)
theorem OperandsDecode.stxZpY (z : Byte) : OperandsDecode.Statement (.stxZpY z) :=
  (rfl : decodeOp 0x96#8 z 0x00#8 = .stxZpY z)
theorem OperandsDecode.saxZpY (z : Byte) : OperandsDecode.Statement (.saxZpY z) :=
  (rfl : decodeOp 0x97#8 z 0x00#8 = .saxZpY z)
theorem OperandsDecode.tya : OperandsDecode.Statement .tya := (rfl : decodeOp 0x98#8 0x00#8 0x00#8 = .tya)
theorem OperandsDecode.staAbsY (w : Addr) : OperandsDecode.Statement (.staAbsY w) :=
  show decodeOp 0x99#8 (lo w) (hi w) = .staAbsY w from
    congrArg Instr.staAbsY (word_hi_lo w)
theorem OperandsDecode.txs : OperandsDecode.Statement .txs := (rfl : decodeOp 0x9A#8 0x00#8 0x00#8 = .txs)
theorem OperandsDecode.tas : OperandsDecode.Statement .tas := (rfl : decodeOp 0x9B#8 0x00#8 0x00#8 = .tas)
theorem OperandsDecode.shyAbsX (w : Addr) : OperandsDecode.Statement (.shyAbsX w) :=
  show decodeOp 0x9C#8 (lo w) (hi w) = .shyAbsX w from
    congrArg Instr.shyAbsX (word_hi_lo w)
theorem OperandsDecode.staAbsX (w : Addr) : OperandsDecode.Statement (.staAbsX w) :=
  show decodeOp 0x9D#8 (lo w) (hi w) = .staAbsX w from
    congrArg Instr.staAbsX (word_hi_lo w)
theorem OperandsDecode.shxAbsY (w : Addr) : OperandsDecode.Statement (.shxAbsY w) :=
  show decodeOp 0x9E#8 (lo w) (hi w) = .shxAbsY w from
    congrArg Instr.shxAbsY (word_hi_lo w)
theorem OperandsDecode.ahx9F : OperandsDecode.Statement .ahx9F := (rfl : decodeOp 0x9F#8 0x00#8 0x00#8 = .ahx9F)
theorem OperandsDecode.ldyImm (m : Byte) : OperandsDecode.Statement (.ldyImm m) :=
  (rfl : decodeOp 0xA0#8 m 0x00#8 = .ldyImm m)
theorem OperandsDecode.ldaIndX (z : Byte) : OperandsDecode.Statement (.ldaIndX z) :=
  (rfl : decodeOp 0xA1#8 z 0x00#8 = .ldaIndX z)
theorem OperandsDecode.ldxImm (m : Byte) : OperandsDecode.Statement (.ldxImm m) :=
  (rfl : decodeOp 0xA2#8 m 0x00#8 = .ldxImm m)
theorem OperandsDecode.laxIndX (z : Byte) : OperandsDecode.Statement (.laxIndX z) :=
  (rfl : decodeOp 0xA3#8 z 0x00#8 = .laxIndX z)
theorem OperandsDecode.ldyZp (z : Byte) : OperandsDecode.Statement (.ldyZp z) :=
  (rfl : decodeOp 0xA4#8 z 0x00#8 = .ldyZp z)
theorem OperandsDecode.ldaZp (z : Byte) : OperandsDecode.Statement (.ldaZp z) :=
  (rfl : decodeOp 0xA5#8 z 0x00#8 = .ldaZp z)
theorem OperandsDecode.ldxZp (z : Byte) : OperandsDecode.Statement (.ldxZp z) :=
  (rfl : decodeOp 0xA6#8 z 0x00#8 = .ldxZp z)
theorem OperandsDecode.laxZp (z : Byte) : OperandsDecode.Statement (.laxZp z) :=
  (rfl : decodeOp 0xA7#8 z 0x00#8 = .laxZp z)
theorem OperandsDecode.tay : OperandsDecode.Statement .tay := (rfl : decodeOp 0xA8#8 0x00#8 0x00#8 = .tay)
theorem OperandsDecode.ldaImm (m : Byte) : OperandsDecode.Statement (.ldaImm m) :=
  (rfl : decodeOp 0xA9#8 m 0x00#8 = .ldaImm m)
theorem OperandsDecode.tax : OperandsDecode.Statement .tax := (rfl : decodeOp 0xAA#8 0x00#8 0x00#8 = .tax)
theorem OperandsDecode.lxa : OperandsDecode.Statement .lxa := (rfl : decodeOp 0xAB#8 0x00#8 0x00#8 = .lxa)
theorem OperandsDecode.ldyAbs (w : Addr) : OperandsDecode.Statement (.ldyAbs w) :=
  show decodeOp 0xAC#8 (lo w) (hi w) = .ldyAbs w from
    congrArg Instr.ldyAbs (word_hi_lo w)
theorem OperandsDecode.ldaAbs (w : Addr) : OperandsDecode.Statement (.ldaAbs w) :=
  show decodeOp 0xAD#8 (lo w) (hi w) = .ldaAbs w from
    congrArg Instr.ldaAbs (word_hi_lo w)
theorem OperandsDecode.ldxAbs (w : Addr) : OperandsDecode.Statement (.ldxAbs w) :=
  show decodeOp 0xAE#8 (lo w) (hi w) = .ldxAbs w from
    congrArg Instr.ldxAbs (word_hi_lo w)
theorem OperandsDecode.laxAbs (w : Addr) : OperandsDecode.Statement (.laxAbs w) :=
  show decodeOp 0xAF#8 (lo w) (hi w) = .laxAbs w from
    congrArg Instr.laxAbs (word_hi_lo w)
theorem OperandsDecode.bcs (d : Byte) : OperandsDecode.Statement (.bcs d) :=
  (rfl : decodeOp 0xB0#8 d 0x00#8 = .bcs d)
theorem OperandsDecode.ldaIndY (z : Byte) : OperandsDecode.Statement (.ldaIndY z) :=
  (rfl : decodeOp 0xB1#8 z 0x00#8 = .ldaIndY z)
theorem OperandsDecode.jamB2 : OperandsDecode.Statement .jamB2 := (rfl : decodeOp 0xB2#8 0x00#8 0x00#8 = .jamB2)
theorem OperandsDecode.laxIndY (z : Byte) : OperandsDecode.Statement (.laxIndY z) :=
  (rfl : decodeOp 0xB3#8 z 0x00#8 = .laxIndY z)
theorem OperandsDecode.ldyZpX (z : Byte) : OperandsDecode.Statement (.ldyZpX z) :=
  (rfl : decodeOp 0xB4#8 z 0x00#8 = .ldyZpX z)
theorem OperandsDecode.ldaZpX (z : Byte) : OperandsDecode.Statement (.ldaZpX z) :=
  (rfl : decodeOp 0xB5#8 z 0x00#8 = .ldaZpX z)
theorem OperandsDecode.ldxZpY (z : Byte) : OperandsDecode.Statement (.ldxZpY z) :=
  (rfl : decodeOp 0xB6#8 z 0x00#8 = .ldxZpY z)
theorem OperandsDecode.laxZpY (z : Byte) : OperandsDecode.Statement (.laxZpY z) :=
  (rfl : decodeOp 0xB7#8 z 0x00#8 = .laxZpY z)
theorem OperandsDecode.clv : OperandsDecode.Statement .clv := (rfl : decodeOp 0xB8#8 0x00#8 0x00#8 = .clv)
theorem OperandsDecode.ldaAbsY (w : Addr) : OperandsDecode.Statement (.ldaAbsY w) :=
  show decodeOp 0xB9#8 (lo w) (hi w) = .ldaAbsY w from
    congrArg Instr.ldaAbsY (word_hi_lo w)
theorem OperandsDecode.tsx : OperandsDecode.Statement .tsx := (rfl : decodeOp 0xBA#8 0x00#8 0x00#8 = .tsx)
theorem OperandsDecode.las : OperandsDecode.Statement .las := (rfl : decodeOp 0xBB#8 0x00#8 0x00#8 = .las)
theorem OperandsDecode.ldyAbsX (w : Addr) : OperandsDecode.Statement (.ldyAbsX w) :=
  show decodeOp 0xBC#8 (lo w) (hi w) = .ldyAbsX w from
    congrArg Instr.ldyAbsX (word_hi_lo w)
theorem OperandsDecode.ldaAbsX (w : Addr) : OperandsDecode.Statement (.ldaAbsX w) :=
  show decodeOp 0xBD#8 (lo w) (hi w) = .ldaAbsX w from
    congrArg Instr.ldaAbsX (word_hi_lo w)
theorem OperandsDecode.ldxAbsY (w : Addr) : OperandsDecode.Statement (.ldxAbsY w) :=
  show decodeOp 0xBE#8 (lo w) (hi w) = .ldxAbsY w from
    congrArg Instr.ldxAbsY (word_hi_lo w)
theorem OperandsDecode.laxAbsY (w : Addr) : OperandsDecode.Statement (.laxAbsY w) :=
  show decodeOp 0xBF#8 (lo w) (hi w) = .laxAbsY w from
    congrArg Instr.laxAbsY (word_hi_lo w)
theorem OperandsDecode.cpyImm (m : Byte) : OperandsDecode.Statement (.cpyImm m) :=
  (rfl : decodeOp 0xC0#8 m 0x00#8 = .cpyImm m)
theorem OperandsDecode.cmpIndX (z : Byte) : OperandsDecode.Statement (.cmpIndX z) :=
  (rfl : decodeOp 0xC1#8 z 0x00#8 = .cmpIndX z)
theorem OperandsDecode.nopImmC2 (m : Byte) : OperandsDecode.Statement (.nopImmC2 m) :=
  (rfl : decodeOp 0xC2#8 m 0x00#8 = .nopImmC2 m)
theorem OperandsDecode.dcpIndX (z : Byte) : OperandsDecode.Statement (.dcpIndX z) :=
  (rfl : decodeOp 0xC3#8 z 0x00#8 = .dcpIndX z)
theorem OperandsDecode.cpyZp (z : Byte) : OperandsDecode.Statement (.cpyZp z) :=
  (rfl : decodeOp 0xC4#8 z 0x00#8 = .cpyZp z)
theorem OperandsDecode.cmpZp (z : Byte) : OperandsDecode.Statement (.cmpZp z) :=
  (rfl : decodeOp 0xC5#8 z 0x00#8 = .cmpZp z)
theorem OperandsDecode.decZp (z : Byte) : OperandsDecode.Statement (.decZp z) :=
  (rfl : decodeOp 0xC6#8 z 0x00#8 = .decZp z)
theorem OperandsDecode.dcpZp (z : Byte) : OperandsDecode.Statement (.dcpZp z) :=
  (rfl : decodeOp 0xC7#8 z 0x00#8 = .dcpZp z)
theorem OperandsDecode.iny : OperandsDecode.Statement .iny := (rfl : decodeOp 0xC8#8 0x00#8 0x00#8 = .iny)
theorem OperandsDecode.cmpImm (m : Byte) : OperandsDecode.Statement (.cmpImm m) :=
  (rfl : decodeOp 0xC9#8 m 0x00#8 = .cmpImm m)
theorem OperandsDecode.dex : OperandsDecode.Statement .dex := (rfl : decodeOp 0xCA#8 0x00#8 0x00#8 = .dex)
theorem OperandsDecode.axs : OperandsDecode.Statement .axs := (rfl : decodeOp 0xCB#8 0x00#8 0x00#8 = .axs)
theorem OperandsDecode.cpyAbs (w : Addr) : OperandsDecode.Statement (.cpyAbs w) :=
  show decodeOp 0xCC#8 (lo w) (hi w) = .cpyAbs w from
    congrArg Instr.cpyAbs (word_hi_lo w)
theorem OperandsDecode.cmpAbs (w : Addr) : OperandsDecode.Statement (.cmpAbs w) :=
  show decodeOp 0xCD#8 (lo w) (hi w) = .cmpAbs w from
    congrArg Instr.cmpAbs (word_hi_lo w)
theorem OperandsDecode.decAbs (w : Addr) : OperandsDecode.Statement (.decAbs w) :=
  show decodeOp 0xCE#8 (lo w) (hi w) = .decAbs w from
    congrArg Instr.decAbs (word_hi_lo w)
theorem OperandsDecode.dcpAbs (w : Addr) : OperandsDecode.Statement (.dcpAbs w) :=
  show decodeOp 0xCF#8 (lo w) (hi w) = .dcpAbs w from
    congrArg Instr.dcpAbs (word_hi_lo w)
theorem OperandsDecode.bne (d : Byte) : OperandsDecode.Statement (.bne d) :=
  (rfl : decodeOp 0xD0#8 d 0x00#8 = .bne d)
theorem OperandsDecode.cmpIndY (z : Byte) : OperandsDecode.Statement (.cmpIndY z) :=
  (rfl : decodeOp 0xD1#8 z 0x00#8 = .cmpIndY z)
theorem OperandsDecode.jamD2 : OperandsDecode.Statement .jamD2 := (rfl : decodeOp 0xD2#8 0x00#8 0x00#8 = .jamD2)
theorem OperandsDecode.dcpIndY (z : Byte) : OperandsDecode.Statement (.dcpIndY z) :=
  (rfl : decodeOp 0xD3#8 z 0x00#8 = .dcpIndY z)
theorem OperandsDecode.nopZpXD4 (z : Byte) : OperandsDecode.Statement (.nopZpXD4 z) :=
  (rfl : decodeOp 0xD4#8 z 0x00#8 = .nopZpXD4 z)
theorem OperandsDecode.cmpZpX (z : Byte) : OperandsDecode.Statement (.cmpZpX z) :=
  (rfl : decodeOp 0xD5#8 z 0x00#8 = .cmpZpX z)
theorem OperandsDecode.decZpX (z : Byte) : OperandsDecode.Statement (.decZpX z) :=
  (rfl : decodeOp 0xD6#8 z 0x00#8 = .decZpX z)
theorem OperandsDecode.dcpZpX (z : Byte) : OperandsDecode.Statement (.dcpZpX z) :=
  (rfl : decodeOp 0xD7#8 z 0x00#8 = .dcpZpX z)
theorem OperandsDecode.cld : OperandsDecode.Statement .cld := (rfl : decodeOp 0xD8#8 0x00#8 0x00#8 = .cld)
theorem OperandsDecode.cmpAbsY (w : Addr) : OperandsDecode.Statement (.cmpAbsY w) :=
  show decodeOp 0xD9#8 (lo w) (hi w) = .cmpAbsY w from
    congrArg Instr.cmpAbsY (word_hi_lo w)
theorem OperandsDecode.nopDA : OperandsDecode.Statement .nopDA := (rfl : decodeOp 0xDA#8 0x00#8 0x00#8 = .nopDA)
theorem OperandsDecode.dcpAbsY (w : Addr) : OperandsDecode.Statement (.dcpAbsY w) :=
  show decodeOp 0xDB#8 (lo w) (hi w) = .dcpAbsY w from
    congrArg Instr.dcpAbsY (word_hi_lo w)
theorem OperandsDecode.nopAbsXDC (w : Addr) : OperandsDecode.Statement (.nopAbsXDC w) :=
  show decodeOp 0xDC#8 (lo w) (hi w) = .nopAbsXDC w from
    congrArg Instr.nopAbsXDC (word_hi_lo w)
theorem OperandsDecode.cmpAbsX (w : Addr) : OperandsDecode.Statement (.cmpAbsX w) :=
  show decodeOp 0xDD#8 (lo w) (hi w) = .cmpAbsX w from
    congrArg Instr.cmpAbsX (word_hi_lo w)
theorem OperandsDecode.decAbsX (w : Addr) : OperandsDecode.Statement (.decAbsX w) :=
  show decodeOp 0xDE#8 (lo w) (hi w) = .decAbsX w from
    congrArg Instr.decAbsX (word_hi_lo w)
theorem OperandsDecode.dcpAbsX (w : Addr) : OperandsDecode.Statement (.dcpAbsX w) :=
  show decodeOp 0xDF#8 (lo w) (hi w) = .dcpAbsX w from
    congrArg Instr.dcpAbsX (word_hi_lo w)
theorem OperandsDecode.cpxImm (m : Byte) : OperandsDecode.Statement (.cpxImm m) :=
  (rfl : decodeOp 0xE0#8 m 0x00#8 = .cpxImm m)
theorem OperandsDecode.sbcIndX (z : Byte) : OperandsDecode.Statement (.sbcIndX z) :=
  (rfl : decodeOp 0xE1#8 z 0x00#8 = .sbcIndX z)
theorem OperandsDecode.nopImmE2 (m : Byte) : OperandsDecode.Statement (.nopImmE2 m) :=
  (rfl : decodeOp 0xE2#8 m 0x00#8 = .nopImmE2 m)
theorem OperandsDecode.isbIndX (z : Byte) : OperandsDecode.Statement (.isbIndX z) :=
  (rfl : decodeOp 0xE3#8 z 0x00#8 = .isbIndX z)
theorem OperandsDecode.cpxZp (z : Byte) : OperandsDecode.Statement (.cpxZp z) :=
  (rfl : decodeOp 0xE4#8 z 0x00#8 = .cpxZp z)
theorem OperandsDecode.sbcZp (z : Byte) : OperandsDecode.Statement (.sbcZp z) :=
  (rfl : decodeOp 0xE5#8 z 0x00#8 = .sbcZp z)
theorem OperandsDecode.incZp (z : Byte) : OperandsDecode.Statement (.incZp z) :=
  (rfl : decodeOp 0xE6#8 z 0x00#8 = .incZp z)
theorem OperandsDecode.isbZp (z : Byte) : OperandsDecode.Statement (.isbZp z) :=
  (rfl : decodeOp 0xE7#8 z 0x00#8 = .isbZp z)
theorem OperandsDecode.inx : OperandsDecode.Statement .inx := (rfl : decodeOp 0xE8#8 0x00#8 0x00#8 = .inx)
theorem OperandsDecode.sbcImm (m : Byte) : OperandsDecode.Statement (.sbcImm m) :=
  (rfl : decodeOp 0xE9#8 m 0x00#8 = .sbcImm m)
theorem OperandsDecode.nop : OperandsDecode.Statement .nop := (rfl : decodeOp 0xEA#8 0x00#8 0x00#8 = .nop)
theorem OperandsDecode.sbcImmEB (m : Byte) : OperandsDecode.Statement (.sbcImmEB m) :=
  (rfl : decodeOp 0xEB#8 m 0x00#8 = .sbcImmEB m)
theorem OperandsDecode.cpxAbs (w : Addr) : OperandsDecode.Statement (.cpxAbs w) :=
  show decodeOp 0xEC#8 (lo w) (hi w) = .cpxAbs w from
    congrArg Instr.cpxAbs (word_hi_lo w)
theorem OperandsDecode.sbcAbs (w : Addr) : OperandsDecode.Statement (.sbcAbs w) :=
  show decodeOp 0xED#8 (lo w) (hi w) = .sbcAbs w from
    congrArg Instr.sbcAbs (word_hi_lo w)
theorem OperandsDecode.incAbs (w : Addr) : OperandsDecode.Statement (.incAbs w) :=
  show decodeOp 0xEE#8 (lo w) (hi w) = .incAbs w from
    congrArg Instr.incAbs (word_hi_lo w)
theorem OperandsDecode.isbAbs (w : Addr) : OperandsDecode.Statement (.isbAbs w) :=
  show decodeOp 0xEF#8 (lo w) (hi w) = .isbAbs w from
    congrArg Instr.isbAbs (word_hi_lo w)
theorem OperandsDecode.beq (d : Byte) : OperandsDecode.Statement (.beq d) :=
  (rfl : decodeOp 0xF0#8 d 0x00#8 = .beq d)
theorem OperandsDecode.sbcIndY (z : Byte) : OperandsDecode.Statement (.sbcIndY z) :=
  (rfl : decodeOp 0xF1#8 z 0x00#8 = .sbcIndY z)
theorem OperandsDecode.jamF2 : OperandsDecode.Statement .jamF2 := (rfl : decodeOp 0xF2#8 0x00#8 0x00#8 = .jamF2)
theorem OperandsDecode.isbIndY (z : Byte) : OperandsDecode.Statement (.isbIndY z) :=
  (rfl : decodeOp 0xF3#8 z 0x00#8 = .isbIndY z)
theorem OperandsDecode.nopZpXF4 (z : Byte) : OperandsDecode.Statement (.nopZpXF4 z) :=
  (rfl : decodeOp 0xF4#8 z 0x00#8 = .nopZpXF4 z)
theorem OperandsDecode.sbcZpX (z : Byte) : OperandsDecode.Statement (.sbcZpX z) :=
  (rfl : decodeOp 0xF5#8 z 0x00#8 = .sbcZpX z)
theorem OperandsDecode.incZpX (z : Byte) : OperandsDecode.Statement (.incZpX z) :=
  (rfl : decodeOp 0xF6#8 z 0x00#8 = .incZpX z)
theorem OperandsDecode.isbZpX (z : Byte) : OperandsDecode.Statement (.isbZpX z) :=
  (rfl : decodeOp 0xF7#8 z 0x00#8 = .isbZpX z)
theorem OperandsDecode.sed : OperandsDecode.Statement .sed := (rfl : decodeOp 0xF8#8 0x00#8 0x00#8 = .sed)
theorem OperandsDecode.sbcAbsY (w : Addr) : OperandsDecode.Statement (.sbcAbsY w) :=
  show decodeOp 0xF9#8 (lo w) (hi w) = .sbcAbsY w from
    congrArg Instr.sbcAbsY (word_hi_lo w)
theorem OperandsDecode.nopFA : OperandsDecode.Statement .nopFA := (rfl : decodeOp 0xFA#8 0x00#8 0x00#8 = .nopFA)
theorem OperandsDecode.isbAbsY (w : Addr) : OperandsDecode.Statement (.isbAbsY w) :=
  show decodeOp 0xFB#8 (lo w) (hi w) = .isbAbsY w from
    congrArg Instr.isbAbsY (word_hi_lo w)
theorem OperandsDecode.nopAbsXFC (w : Addr) : OperandsDecode.Statement (.nopAbsXFC w) :=
  show decodeOp 0xFC#8 (lo w) (hi w) = .nopAbsXFC w from
    congrArg Instr.nopAbsXFC (word_hi_lo w)
theorem OperandsDecode.sbcAbsX (w : Addr) : OperandsDecode.Statement (.sbcAbsX w) :=
  show decodeOp 0xFD#8 (lo w) (hi w) = .sbcAbsX w from
    congrArg Instr.sbcAbsX (word_hi_lo w)
theorem OperandsDecode.incAbsX (w : Addr) : OperandsDecode.Statement (.incAbsX w) :=
  show decodeOp 0xFE#8 (lo w) (hi w) = .incAbsX w from
    congrArg Instr.incAbsX (word_hi_lo w)
theorem OperandsDecode.isbAbsX (w : Addr) : OperandsDecode.Statement (.isbAbsX w) :=
  show decodeOp 0xFF#8 (lo w) (hi w) = .isbAbsX w from
    congrArg Instr.isbAbsX (word_hi_lo w)

end Sys2Proof.Laws
end

