-- ==== Sys2Proof/Laws/Step.lean ====
section
/-! SUPPORT. What one step can do: the fetches around `exec`, and the step's inversion. -/

namespace Sys2Proof.Machine

section
variable (s : State) (op : Byte)

@[simp] theorem fetchByte_fst : (fetchByte s).1 = s.bus.answer s.regs.pc := rfl
@[simp] theorem fetchByte_regs : (fetchByte s).2.regs = { s.regs with pc := s.regs.pc + 1 } := rfl
@[simp] theorem fetchByte_cyc : (fetchByte s).2.cyc = s.cyc := rfl
@[simp] theorem fetchByte_totalCycles : (fetchByte s).2.totalCycles = s.totalCycles := rfl
@[simp] theorem fetchByte_fault : (fetchByte s).2.fault = s.fault := rfl
@[simp] theorem fetchByte_bus : (fetchByte s).2.bus = (s.bus.load s.regs.pc).2 := rfl

theorem lengthOf_cases : lengthOf op = 1 ∨ lengthOf op = 2 ∨ lengthOf op = 3 := by
  revert op
  decide

variable {s op}

theorem Kept.fetchByte {t : State} (h : Kept s t) : Kept s (fetchByte t).2 := (h.memRead _).setPc _

theorem Kept.fetchOperands {t : State} (h : Kept s t) : Kept s (fetchOperands op t).2 := by
  unfold Machine.fetchOperands
  split
  · exact h
  · exact h.fetchByte
  · exact h.fetchByte.fetchByte

/-- Fetching the operand bytes charges nothing. -/
@[simp] theorem fetchOperands_cyc : (fetchOperands op s).2.cyc = s.cyc := by
  unfold fetchOperands
  split <;> rfl

/-- Fetching the operand bytes moves PC and no other register. -/
theorem fetchOperands_regs :
    (fetchOperands op s).2.regs = { s.regs with pc := (fetchOperands op s).2.regs.pc } := by
  unfold fetchOperands
  split <;> rfl

/-- The instruction fetched is one of the opcode. -/
@[simp] theorem fetchOperands_opcode : (fetchOperands op s).1.opcode = op := by
  unfold fetchOperands
  split <;> exact opcode_decodeOp _ _ _

end

/-- The state in which a step that is not fatal executes its instruction. -/
def fetchedState (s : State) : Instr × State :=
  let f := fetchByte (beginStep s)
  fetchOperands f.1 (chargeBase f.1 f.2)

/-- A step that answers a next state: the core was not faulted, the opcode is supported, and the fetched instruction ran
to a next state, whose count the end of the step adds to the running total. -/
theorem step_next {s t : State} (h : step s = .next t) :
    s.fault = none ∧ unsupported (s.bus.answer s.regs.pc) = false ∧
      ∃ u, exec (fetchedState s).1 (fetchedState s).2 = .next u ∧
        t = (u.setTotalCycles (u.totalCycles + u.cyc)).setCyc 0 := by
  unfold step at h
  split at h
  · cases h
  · rename_i hf
    simp only at h
    split at h
    · cases h
    · rename_i hu
      refine ⟨hf, by simpa [beginStep] using hu, ?_⟩
      change endStep (exec (fetchedState s).1 (fetchedState s).2) = _ at h
      cases hx : exec (fetchedState s).1 (fetchedState s).2 with
      | next u => rw [hx] at h; cases h; exact ⟨u, rfl, rfl⟩
      | fault r => rw [hx] at h; cases h
      | refused r => rw [hx] at h; cases h

/-- The fetches of a step keep what every execution keeps, from the state whose `cyc` is zeroed. -/
theorem fetchedState_kept (s : State) : Kept (s.setCyc 0) (fetchedState s).2 :=
  (((Kept.refl _).fetchByte).addCyc _).fetchOperands

/-- At the execution of its instruction `cyc` holds the base cost. -/
theorem fetchedState_cyc (s : State) :
    (fetchedState s).2.cyc = baseCycles (s.bus.answer s.regs.pc) := by
  simp [fetchedState, chargeBase, beginStep]

@[simp] theorem fetchedState_opcode (s : State) : (fetchedState s).1.opcode = s.bus.answer s.regs.pc := by
  simp [fetchedState, beginStep]

end Sys2Proof.Machine
end

