-- ==== Sys2Proof/Tests/Slice0.lean ====
section
/-! SUPPORT. The model's own tests.  Expected results come from 95_test_vectors.md (the vector is named) or from the
rule named; then one witness for every statement that has hypotheses. -/

namespace Sys2Proof.Tests

open Sys2Proof Sys2Proof.Machine Sys2Proof.Claims

/-! ## Helpers -/

/-- The registers after reset, before PC is set. -/
def regs0 : Regs := State.reset.regs

/-- The reset state of 95_test_vectors.md §0 with PC at `pc`, the instruction bytes there, further memory bytes and
registers. -/
def at_ (pc : Addr) (bytes : List Byte) (cells : List (Nat × Byte)) (r : Regs) : State :=
  { State.reset with
    regs := { r with pc := pc }
    bus :=
      { mem := placeBytes pc bytes (cells.foldl (fun m c => m.write c.1 c.2) []), answers := [], trace := [] } }

/-- What a step's next state holds, if it has one. -/
def after {α : Type} (s : State) (f : State → α) : Option α :=
  match step s with
  | .next t => some (f t)
  | .fault _ => none
  | .refused _ => none

/-- The record a fatal step returns, if it is one. -/
def fatalOf (s : State) : Option FaultRecord :=
  match step s with
  | .next _ => none
  | .fault (.unsupportedOpcode r) => some r
  | .refused _ => none

/-! ## Well-formedness: the check of admission, and terms it refuses (rules R44 to R47) -/

theorem test_admitted_documented : Instr.wellFormed (.ldaImm 0x05#8) = true := by decide
theorem test_admitted_undocumented : Instr.wellFormed (.dcpZp 0x10#8) = true := by decide
theorem test_ill_formed_jam : Instr.wellFormed .jam02 = false := by decide
theorem test_ill_formed_alr : Instr.wellFormed .alr = false := by decide
theorem test_ill_formed_ahx : Instr.wellFormed .ahx9F = false := by decide
theorem test_ill_formed_las : Instr.wellFormed .las = false := by decide

/-! ## Decoding: words written out bit by bit from 30_encoding.md §3 and the rules' encoding lines -/

/-- LDA (zp),Y is 0xB1 and one operand byte (rule R76). -/
theorem test_decode_load : decode [0b10110001#8, 0b01000000#8] = .ok (.ldaIndY 0x40#8, []) := rfl

/-- STX zp,Y is 0x96 and one operand byte (rule R80). -/
theorem test_decode_store : decode [0b10010110#8, 0b00010000#8] = .ok (.stxZpY 0x10#8, []) := rfl

/-- ADC abs,Y is 0x79, the low byte and then the high byte (rules R86 and R43). -/
theorem test_decode_alu :
    decode [0b01111001#8, 0b00110100#8, 0b00010010#8] = .ok (.adcAbsY 0x1234#16, []) := rfl

/-- BIT abs is 0x2C (rule R91). -/
theorem test_decode_bit :
    decode [0b00101100#8, 0b00000000#8, 0b00000011#8] = .ok (.bitAbs 0x0300#16, []) := rfl

/-- ROR abs,X is 0x7E (rule R100). -/
theorem test_decode_shift :
    decode [0b01111110#8, 0b11111111#8, 0b00010010#8] = .ok (.rorAbsX 0x12FF#16, []) := rfl

/-- The accumulator form of ASL is 0x0A, one byte (rule R97). -/
theorem test_decode_accumulator : decode [0b00001010#8, 0b11101010#8] = .ok (.aslA, [0xEA#8]) := rfl

/-- DEC zp,X is 0xD6 (rule R102). -/
theorem test_decode_decrement : decode [0b11010110#8, 0b10000000#8] = .ok (.decZpX 0x80#8, []) := rfl

/-- BVS is 0x70 and a displacement (rule R112). -/
theorem test_decode_branch : decode [0b01110000#8, 0b10000000#8] = .ok (.bvs 0x80#8, []) := rfl

/-- The indirect jump is 0x6C (rule R117). -/
theorem test_decode_jump :
    decode [0b01101100#8, 0b11111111#8, 0b00000010#8] = .ok (.jmpInd 0x02FF#16, []) := rfl

/-- PLP is 0x28 (rule R123). -/
theorem test_decode_stack : decode [0b00101000#8] = .ok (.plp, []) := rfl

/-- TSX is 0xBA (rule R128). -/
theorem test_decode_transfer : decode [0b10111010#8] = .ok (.tsx, []) := rfl

/-- SED is 0xF8 (rule R135). -/
theorem test_decode_flag : decode [0b11111000#8] = .ok (.sed, []) := rfl

/-- ISB (zp,X) is 0xE3 (rule R148). -/
theorem test_decode_undocumented : decode [0b11100011#8, 0b00010000#8] = .ok (.isbIndX 0x10#8, []) := rfl

/-- BRK is 0x00, one byte; its padding byte is not an operand (rule R159). -/
theorem test_decode_brk : decode [0b00000000#8, 0b11101010#8] = .ok (.brk, [0xEA#8]) := rfl

/-- 0x6B is the unsupported ARR; no operand byte of it is read (rules R47 and R153). -/
theorem test_decode_unsupported : decode [0b01101011#8, 0b00000001#8] = .ok (.arr, [0x01#8]) := rfl

/-- No byte, and a missing operand byte, are refused by name. -/
theorem test_decode_truncated :
    decode [] = .error .empty ∧ decode [0xAD#8, 0x00#8] = .error (.truncated 0xAD#8) := ⟨rfl, rfl⟩

/-- The table's numbering of bits: the first byte is bits 7 to 0 (4C 34 12 is JMP $1234). -/
theorem test_decode_table_word : decodeTableWord 24 0x12344C = some (.jmpAbs 0x1234#16) := rfl

/-- With the operand bytes given no bits, they are zero. -/
theorem test_decode_table_word_short : decodeTableWord 8 0x12344C = some (.jmpAbs 0x0000#16) := rfl

/-- The placed instruction is what the next step fetches and runs. -/
theorem test_with_fetch_word :
    after (State.reset.withFetchWord 24 0x12344C) (fun t => t.regs.pc) = some 0x1234#16 := by
  decide

/-! ## Loads and stores (95_test_vectors.md, vectors L) -/

/-- Vector L10, `LDA ($FF,X) (pointer wrap)`. -/
theorem test_lda_L10 :
    after
      (at_ 0x8000#16 [0xA1#8, 0xFF#8] [(0x0000, 0x12#8), (0x00FF, 0x34#8), (0x1234, 0xAB#8)]
        { regs0 with x := 0x00#8 })
      (fun t => (t.regs.a, packP t.regs.p, t.totalCycles)) =
      some (0xAB#8, 0xA4#8, 6) := by
  decide

/-- Vector L6, `LDX $F0,Y (zp wrap)`. -/
theorem test_ldx_L6 :
    after
      (at_ 0x8000#16 [0xB6#8, 0xF0#8] [(0x0001, 0x33#8)]
        { regs0 with y := 0x11#8 })
      (fun t => (t.regs.x, packP t.regs.p, t.totalCycles)) =
      some (0x33#8, 0x24#8, 4) := by
  decide

/-- Vector L3, `LDX $10`. -/
theorem test_ldx_L3 :
    after
      (at_ 0x8000#16 [0xA6#8, 0x10#8] [(0x0010, 0x7F#8)]
        regs0)
      (fun t => (t.regs.x, packP t.regs.p, t.totalCycles)) =
      some (0x7F#8, 0x24#8, 3) := by
  decide

/-- Vector L4, `LDY $10,X`. -/
theorem test_ldy_L4 :
    after
      (at_ 0x8000#16 [0xB4#8, 0x10#8] [(0x0015, 0xFF#8)]
        { regs0 with x := 0x05#8 })
      (fun t => (t.regs.y, packP t.regs.p, t.totalCycles)) =
      some (0xFF#8, 0xA4#8, 4) := by
  decide

/-- Vector L14, `STA $0200`. -/
theorem test_sta_L14 :
    after
      (at_ 0x8000#16 [0x8D#8, 0x00#8, 0x02#8] []
        { regs0 with a := 0x5A#8 })
      (fun t => (t.bus.mem.read 0x0200, packP t.regs.p, t.totalCycles)) =
      some (0x5A#8, 0x24#8, 4) := by
  decide

/-- Vector L16, `STA ($40),Y (no penalty)`. -/
theorem test_sta_L16 :
    after
      (at_ 0x8000#16 [0x91#8, 0x40#8] [(0x0040, 0x01#8), (0x0041, 0x20#8)]
        { regs0 with a := 0x77#8, y := 0xFF#8 })
      (fun t => (t.bus.mem.read 0x2100, packP t.regs.p, t.totalCycles)) =
      some (0x77#8, 0x24#8, 6) := by
  decide

/-- Vector L17, `STX $10,Y`. -/
theorem test_stx_L17 :
    after
      (at_ 0x8000#16 [0x96#8, 0x10#8] []
        { regs0 with x := 0x99#8, y := 0xF5#8 })
      (fun t => (t.bus.mem.read 0x0005, packP t.regs.p, t.totalCycles)) =
      some (0x99#8, 0x24#8, 4) := by
  decide

/-- Vector L18, `STY $0300`. -/
theorem test_sty_L18 :
    after
      (at_ 0x8000#16 [0x8C#8, 0x00#8, 0x03#8] []
        { regs0 with y := 0x00#8, p := unpackRestore 0xA5#8 })
      (fun t => (t.bus.mem.read 0x0300, packP t.regs.p, t.totalCycles)) =
      some (0x00#8, 0xA5#8, 4) := by
  decide

/-! ## ALU (95_test_vectors.md, vectors A) -/

/-- Vector A1, `ADC #$01 (0x7F+1 overflow)`. -/
theorem test_adc_A1 :
    after
      (at_ 0x8000#16 [0x69#8, 0x01#8] []
        { regs0 with a := 0x7F#8 })
      (fun t => (t.regs.a, packP t.regs.p, t.totalCycles)) =
      some (0x80#8, 0xE4#8, 2) := by
  decide

/-- Vector A4, `ADC #$10 with D=1 (binary)`. -/
theorem test_adc_A4 :
    after
      (at_ 0x8000#16 [0x69#8, 0x10#8] []
        { regs0 with a := 0x09#8, p := unpackRestore 0x2C#8 })
      (fun t => (t.regs.a, packP t.regs.p, t.totalCycles)) =
      some (0x19#8, 0x2C#8, 2) := by
  decide

/-- Vector A8, `SBC #$FF (0x7F-(-1) overflow)`. -/
theorem test_sbc_A8 :
    after
      (at_ 0x8000#16 [0xE9#8, 0xFF#8] []
        { regs0 with a := 0x7F#8, p := unpackRestore 0x25#8 })
      (fun t => (t.regs.a, packP t.regs.p, t.totalCycles)) =
      some (0x80#8, 0xE4#8, 2) := by
  decide

/-- Vector A9, `SBC #$06 borrow`. -/
theorem test_sbc_A9 :
    after
      (at_ 0x8000#16 [0xE9#8, 0x06#8] []
        { regs0 with a := 0x05#8, p := unpackRestore 0x25#8 })
      (fun t => (t.regs.a, packP t.regs.p, t.totalCycles)) =
      some (0xFF#8, 0xA4#8, 2) := by
  decide

/-- Vector A10, `AND #$0F`. -/
theorem test_and_A10 :
    after
      (at_ 0x8000#16 [0x29#8, 0x0F#8] []
        { regs0 with a := 0xF0#8 })
      (fun t => (t.regs.a, packP t.regs.p, t.totalCycles)) =
      some (0x00#8, 0x26#8, 2) := by
  decide

/-- Vector A11, `ORA #$80`. -/
theorem test_ora_A11 :
    after
      (at_ 0x8000#16 [0x09#8, 0x80#8] []
        { regs0 with a := 0x01#8 })
      (fun t => (t.regs.a, packP t.regs.p, t.totalCycles)) =
      some (0x81#8, 0xA4#8, 2) := by
  decide

/-- Vector A12, `EOR #$FF`. -/
theorem test_eor_A12 :
    after
      (at_ 0x8000#16 [0x49#8, 0xFF#8] []
        { regs0 with a := 0xFF#8 })
      (fun t => (t.regs.a, packP t.regs.p, t.totalCycles)) =
      some (0x00#8, 0x26#8, 2) := by
  decide

/-- Vector A14, `CMP #$20 less`. -/
theorem test_cmp_A14 :
    after
      (at_ 0x8000#16 [0xC9#8, 0x20#8] []
        { regs0 with a := 0x10#8 })
      (fun t => (packP t.regs.p, t.totalCycles)) =
      some (0xA4#8, 2) := by
  decide

/-- Vector A15, `CMP #$01 greater`. -/
theorem test_cmp_A15 :
    after
      (at_ 0x8000#16 [0xC9#8, 0x01#8] []
        { regs0 with a := 0x90#8 })
      (fun t => (packP t.regs.p, t.totalCycles)) =
      some (0xA5#8, 2) := by
  decide

/-- Vector A16, `CPX #$FF`. -/
theorem test_cpx_A16 :
    after
      (at_ 0x8000#16 [0xE0#8, 0xFF#8] []
        { regs0 with x := 0x00#8 })
      (fun t => (packP t.regs.p, t.totalCycles)) =
      some (0x24#8, 2) := by
  decide

/-- Vector A17, `CPY $10`. -/
theorem test_cpy_A17 :
    after
      (at_ 0x8000#16 [0xC4#8, 0x10#8] [(0x0010, 0x7F#8)]
        { regs0 with y := 0x80#8 })
      (fun t => (packP t.regs.p, t.totalCycles)) =
      some (0x25#8, 3) := by
  decide

/-- Vector A18, `BIT $10`. -/
theorem test_bit_A18 :
    after
      (at_ 0x8000#16 [0x24#8, 0x10#8] [(0x0010, 0xC0#8)]
        { regs0 with a := 0x01#8 })
      (fun t => (packP t.regs.p, t.totalCycles)) =
      some (0xE6#8, 3) := by
  decide

/-- Vector A19, `BIT $0300`. -/
theorem test_bit_A19 :
    after
      (at_ 0x8000#16 [0x2C#8, 0x00#8, 0x03#8] [(0x0300, 0x01#8)]
        { regs0 with a := 0xFF#8 })
      (fun t => (packP t.regs.p, t.totalCycles)) =
      some (0x24#8, 4) := by
  decide

/-! ## Shifts, increments and decrements (95_test_vectors.md, vectors S) -/

/-- Vector S1, `ASL A`. -/
theorem test_asl_S1 :
    after
      (at_ 0x8000#16 [0x0A#8] []
        { regs0 with a := 0x81#8 })
      (fun t => (t.regs.a, packP t.regs.p, t.totalCycles)) =
      some (0x02#8, 0x25#8, 2) := by
  decide

/-- Vector S6, `ASL $10`. -/
theorem test_asl_S6 :
    after
      (at_ 0x8000#16 [0x06#8, 0x10#8] [(0x0010, 0x40#8)]
        regs0)
      (fun t => (t.bus.mem.read 0x0010, packP t.regs.p, t.totalCycles)) =
      some (0x80#8, 0xA4#8, 5) := by
  decide

/-- Vector S2, `LSR A`. -/
theorem test_lsr_S2 :
    after
      (at_ 0x8000#16 [0x4A#8] []
        { regs0 with a := 0x01#8 })
      (fun t => (t.regs.a, packP t.regs.p, t.totalCycles)) =
      some (0x00#8, 0x27#8, 2) := by
  decide

/-- Vector S7, `LSR $0300,X (no penalty)`. -/
theorem test_lsr_S7 :
    after
      (at_ 0x8000#16 [0x5E#8, 0xFF#8, 0x02#8] [(0x0300, 0x03#8)]
        { regs0 with x := 0x01#8 })
      (fun t => (t.bus.mem.read 0x0300, packP t.regs.p, t.totalCycles)) =
      some (0x01#8, 0x25#8, 7) := by
  decide

/-- Vector S3, `ROL A with C=1`. -/
theorem test_rol_S3 :
    after
      (at_ 0x8000#16 [0x2A#8] []
        { regs0 with a := 0x80#8, p := unpackRestore 0x25#8 })
      (fun t => (t.regs.a, packP t.regs.p, t.totalCycles)) =
      some (0x01#8, 0x25#8, 2) := by
  decide

/-- Vector S4, `ROR A with C=1`. -/
theorem test_ror_S4 :
    after
      (at_ 0x8000#16 [0x6A#8] []
        { regs0 with a := 0x01#8, p := unpackRestore 0x25#8 })
      (fun t => (t.regs.a, packP t.regs.p, t.totalCycles)) =
      some (0x80#8, 0xA5#8, 2) := by
  decide

/-- Vector S5, `ROR A with C=0`. -/
theorem test_ror_S5 :
    after
      (at_ 0x8000#16 [0x6A#8] []
        { regs0 with a := 0x02#8 })
      (fun t => (t.regs.a, packP t.regs.p, t.totalCycles)) =
      some (0x01#8, 0x24#8, 2) := by
  decide

/-- Vector S8, `INC $10 (wrap)`. -/
theorem test_inc_S8 :
    after
      (at_ 0x8000#16 [0xE6#8, 0x10#8] [(0x0010, 0xFF#8)]
        regs0)
      (fun t => (t.bus.mem.read 0x0010, packP t.regs.p, t.totalCycles)) =
      some (0x00#8, 0x26#8, 5) := by
  decide

/-- Vector S13, `INC $12FF,X`. -/
theorem test_inc_S13 :
    after
      (at_ 0x8000#16 [0xFE#8, 0xFF#8, 0x12#8] [(0x1300, 0x7F#8)]
        { regs0 with x := 0x01#8 })
      (fun t => (t.bus.mem.read 0x1300, packP t.regs.p, t.totalCycles)) =
      some (0x80#8, 0xA4#8, 7) := by
  decide

/-- Vector S9, `DEC $10`. -/
theorem test_dec_S9 :
    after
      (at_ 0x8000#16 [0xC6#8, 0x10#8] [(0x0010, 0x00#8)]
        regs0)
      (fun t => (t.bus.mem.read 0x0010, packP t.regs.p, t.totalCycles)) =
      some (0xFF#8, 0xA4#8, 5) := by
  decide

/-- Vector S10, `INX (wrap)`. -/
theorem test_inx_S10 :
    after
      (at_ 0x8000#16 [0xE8#8] []
        { regs0 with x := 0xFF#8 })
      (fun t => (t.regs.x, packP t.regs.p, t.totalCycles)) =
      some (0x00#8, 0x26#8, 2) := by
  decide

/-- Vector S11, `DEY`. -/
theorem test_dey_S11 :
    after
      (at_ 0x8000#16 [0x88#8] []
        { regs0 with y := 0x01#8 })
      (fun t => (t.regs.y, packP t.regs.p, t.totalCycles)) =
      some (0x00#8, 0x26#8, 2) := by
  decide

/-- Vector S12, `DEX`. -/
theorem test_dex_S12 :
    after
      (at_ 0x8000#16 [0xCA#8] []
        { regs0 with x := 0x00#8 })
      (fun t => (t.regs.x, packP t.regs.p, t.totalCycles)) =
      some (0xFF#8, 0xA4#8, 2) := by
  decide

/-! ## Branches (95_test_vectors.md, vectors B) -/

/-- Vector B1, `BNE +5 not taken (Z=1)`. -/
theorem test_bne_B1 :
    after
      (at_ 0x8000#16 [0xD0#8, 0x05#8] []
        { regs0 with p := unpackRestore 0x26#8 })
      (fun t => (t.regs.pc, packP t.regs.p, t.totalCycles)) =
      some (0x8002#16, 0x26#8, 2) := by
  decide

/-- Vector B2, `BNE +5 taken`. -/
theorem test_bne_B2 :
    after
      (at_ 0x8000#16 [0xD0#8, 0x05#8] []
        regs0)
      (fun t => (t.regs.pc, packP t.regs.p, t.totalCycles)) =
      some (0x8007#16, 0x24#8, 3) := by
  decide

/-- Vector B3, `BEQ -3 taken (to 0x7FFF, other page)`. -/
theorem test_beq_B3 :
    after
      (at_ 0x8000#16 [0xF0#8, 0xFD#8] []
        { regs0 with p := unpackRestore 0x26#8 })
      (fun t => (t.regs.pc, packP t.regs.p, t.totalCycles)) =
      some (0x7FFF#16, 0x26#8, 4) := by
  decide

/-- Vector B13, `BEQ at 0xFFFE +1 wraps to 0x0001`. -/
theorem test_beq_B13 :
    after
      (at_ 0xFFFE#16 [0xF0#8, 0x01#8] []
        { regs0 with p := unpackRestore 0x26#8 })
      (fun t => (t.regs.pc, packP t.regs.p, t.totalCycles)) =
      some (0x0001#16, 0x26#8, 3) := by
  decide

/-- Vector B4, `BPL +0x7F taken`. -/
theorem test_bpl_B4 :
    after
      (at_ 0x8000#16 [0x10#8, 0x7F#8] []
        regs0)
      (fun t => (t.regs.pc, packP t.regs.p, t.totalCycles)) =
      some (0x8081#16, 0x24#8, 3) := by
  decide

/-- Vector B5, `BMI -128 taken`. -/
theorem test_bmi_B5 :
    after
      (at_ 0x8000#16 [0x30#8, 0x80#8] []
        { regs0 with p := unpackRestore 0xA4#8 })
      (fun t => (t.regs.pc, packP t.regs.p, t.totalCycles)) =
      some (0x7F82#16, 0xA4#8, 4) := by
  decide

/-- Vector B6, `BCC at 0x80FE, +1 (target 0x8101)`. -/
theorem test_bcc_B6 :
    after
      (at_ 0x80FE#16 [0x90#8, 0x01#8] []
        regs0)
      (fun t => (t.regs.pc, packP t.regs.p, t.totalCycles)) =
      some (0x8101#16, 0x24#8, 3) := by
  decide

/-- Vector B7, `BCC at 0x80FE, -2 (target 0x80FE)`. -/
theorem test_bcc_B7 :
    after
      (at_ 0x80FE#16 [0x90#8, 0xFE#8] []
        regs0)
      (fun t => (t.regs.pc, packP t.regs.p, t.totalCycles)) =
      some (0x80FE#16, 0x24#8, 4) := by
  decide

/-- Vector B10, `BVS taken`. -/
theorem test_bvs_B10 :
    after
      (at_ 0x8000#16 [0x70#8, 0x10#8] []
        { regs0 with p := unpackRestore 0x64#8 })
      (fun t => (t.regs.pc, packP t.regs.p, t.totalCycles)) =
      some (0x8012#16, 0x64#8, 3) := by
  decide

/-- Vector B11, `BVC not taken`. -/
theorem test_bvc_B11 :
    after
      (at_ 0x8000#16 [0x50#8, 0x10#8] []
        { regs0 with p := unpackRestore 0x64#8 })
      (fun t => (t.regs.pc, packP t.regs.p, t.totalCycles)) =
      some (0x8002#16, 0x64#8, 2) := by
  decide

/-- Vector B12, `BCS taken`. -/
theorem test_bcs_B12 :
    after
      (at_ 0x8000#16 [0xB0#8, 0x02#8] []
        { regs0 with p := unpackRestore 0x25#8 })
      (fun t => (t.regs.pc, packP t.regs.p, t.totalCycles)) =
      some (0x8004#16, 0x25#8, 3) := by
  decide

/-! ## Jumps and subroutines (95_test_vectors.md, vectors J) -/

/-- Vector J2, `JMP ($10FF) page-wrap bug`. -/
theorem test_jmp_J2 :
    after
      (at_ 0x8000#16 [0x6C#8, 0xFF#8, 0x10#8] [(0x1000, 0x12#8), (0x10FF, 0x34#8), (0x1100, 0x56#8)]
        regs0)
      (fun t => (t.regs.pc, packP t.regs.p, t.totalCycles)) =
      some (0x1234#16, 0x24#8, 5) := by
  decide

/-- Vector J4, `JSR $9000`. -/
theorem test_jsr_J4 :
    after
      (at_ 0x8000#16 [0x20#8, 0x00#8, 0x90#8] []
        regs0)
      (fun t => (t.regs.sp, t.regs.pc, t.bus.mem.read 0x01FC, t.bus.mem.read 0x01FD, packP t.regs.p, t.totalCycles)) =
      some (0xFB#8, 0x9000#16, 0x02#8, 0x80#8, 0x24#8, 6) := by
  decide

/-- Vector J6, `JSR with SP=00 (wrap)`. -/
theorem test_jsr_J6 :
    after
      (at_ 0x8000#16 [0x20#8, 0x00#8, 0x90#8] []
        { regs0 with sp := 0x00#8 })
      (fun t => (t.regs.sp, t.regs.pc, t.bus.mem.read 0x0100, t.bus.mem.read 0x01FF, packP t.regs.p, t.totalCycles)) =
      some (0xFE#8, 0x9000#16, 0x80#8, 0x02#8, 0x24#8, 6) := by
  decide

/-- Vector J5, `RTS`. -/
theorem test_rts_J5 :
    after
      (at_ 0x8000#16 [0x60#8] [(0x01FC, 0x02#8), (0x01FD, 0x80#8)]
        { regs0 with sp := 0xFB#8 })
      (fun t => (t.regs.sp, t.regs.pc, packP t.regs.p, t.totalCycles)) =
      some (0xFD#8, 0x8003#16, 0x24#8, 6) := by
  decide

/-! ## Stack, transfers and flags (95_test_vectors.md, vectors K) -/

/-- Vector K1, `PHA`. -/
theorem test_pha_K1 :
    after
      (at_ 0x8000#16 [0x48#8] []
        { regs0 with a := 0x42#8 })
      (fun t => (t.regs.sp, t.bus.mem.read 0x01FD, packP t.regs.p, t.totalCycles)) =
      some (0xFC#8, 0x42#8, 0x24#8, 3) := by
  decide

/-- Vector K2, `PHA with SP=00 (wrap)`. -/
theorem test_pha_K2 :
    after
      (at_ 0x8000#16 [0x48#8] []
        { regs0 with a := 0x42#8, sp := 0x00#8 })
      (fun t => (t.regs.sp, t.bus.mem.read 0x0100, packP t.regs.p, t.totalCycles)) =
      some (0xFF#8, 0x42#8, 0x24#8, 3) := by
  decide

/-- Vector K3, `PLA`. -/
theorem test_pla_K3 :
    after
      (at_ 0x8000#16 [0x68#8] [(0x01FD, 0x80#8)]
        { regs0 with sp := 0xFC#8 })
      (fun t => (t.regs.a, t.regs.sp, packP t.regs.p, t.totalCycles)) =
      some (0x80#8, 0xFD#8, 0xA4#8, 4) := by
  decide

/-- Vector K4, `PLA with SP=FF (wrap)`. -/
theorem test_pla_K4 :
    after
      (at_ 0x8000#16 [0x68#8] [(0x0100, 0x00#8)]
        { regs0 with sp := 0xFF#8 })
      (fun t => (t.regs.sp, packP t.regs.p, t.totalCycles)) =
      some (0x00#8, 0x26#8, 4) := by
  decide

/-- Vector K5, `PHP`. -/
theorem test_php_K5 :
    after
      (at_ 0x8000#16 [0x08#8] []
        { regs0 with p := unpackRestore 0xC3#8 })
      (fun t => (t.regs.sp, t.bus.mem.read 0x01FD, packP t.regs.p, t.totalCycles)) =
      some (0xFC#8, 0xF3#8, 0xE3#8, 3) := by
  decide

/-- Vector K6, `PLP (bits 4,5 ignored)`. -/
theorem test_plp_K6 :
    after
      (at_ 0x8000#16 [0x28#8] [(0x01FD, 0xFF#8)]
        { regs0 with sp := 0xFC#8 })
      (fun t => (t.regs.sp, packP t.regs.p, t.totalCycles)) =
      some (0xFD#8, 0xEF#8, 4) := by
  decide

/-- Vector K7, `PLP of 0x00`. -/
theorem test_plp_K7 :
    after
      (at_ 0x8000#16 [0x28#8] [(0x01FD, 0x00#8)]
        { regs0 with sp := 0xFC#8, p := unpackRestore 0xFF#8 })
      (fun t => (t.regs.sp, packP t.regs.p, t.totalCycles)) =
      some (0xFD#8, 0x20#8, 4) := by
  decide

/-- Vector K8, `TAX`. -/
theorem test_tax_K8 :
    after
      (at_ 0x8000#16 [0xAA#8] []
        { regs0 with a := 0x00#8, x := 0x12#8 })
      (fun t => (t.regs.x, packP t.regs.p, t.totalCycles)) =
      some (0x00#8, 0x26#8, 2) := by
  decide

/-- Vector K9, `TAY`. -/
theorem test_tay_K9 :
    after
      (at_ 0x8000#16 [0xA8#8] []
        { regs0 with a := 0x80#8 })
      (fun t => (t.regs.y, packP t.regs.p, t.totalCycles)) =
      some (0x80#8, 0xA4#8, 2) := by
  decide

/-- Vector K10, `TXA`. -/
theorem test_txa_K10 :
    after
      (at_ 0x8000#16 [0x8A#8] []
        { regs0 with a := 0xFF#8, x := 0x01#8 })
      (fun t => (t.regs.a, packP t.regs.p, t.totalCycles)) =
      some (0x01#8, 0x24#8, 2) := by
  decide

/-- Vector K11, `TYA`. -/
theorem test_tya_K11 :
    after
      (at_ 0x8000#16 [0x98#8] []
        { regs0 with y := 0xFF#8 })
      (fun t => (t.regs.a, packP t.regs.p, t.totalCycles)) =
      some (0xFF#8, 0xA4#8, 2) := by
  decide

/-- Vector K12, `TSX`. -/
theorem test_tsx_K12 :
    after
      (at_ 0x8000#16 [0xBA#8] []
        regs0)
      (fun t => (t.regs.x, packP t.regs.p, t.totalCycles)) =
      some (0xFD#8, 0xA4#8, 2) := by
  decide

/-- Vector K13, `TXS (no flags)`. -/
theorem test_txs_K13 :
    after
      (at_ 0x8000#16 [0x9A#8] []
        { regs0 with x := 0x00#8 })
      (fun t => (t.regs.sp, packP t.regs.p, t.totalCycles)) =
      some (0x00#8, 0x24#8, 2) := by
  decide

/-- Vector K14, `CLC`. -/
theorem test_clc_K14 :
    after
      (at_ 0x8000#16 [0x18#8] []
        { regs0 with p := unpackRestore 0x25#8 })
      (fun t => (packP t.regs.p, t.totalCycles)) =
      some (0x24#8, 2) := by
  decide

/-- Vector K15, `SEC`. -/
theorem test_sec_K15 :
    after
      (at_ 0x8000#16 [0x38#8] []
        regs0)
      (fun t => (packP t.regs.p, t.totalCycles)) =
      some (0x25#8, 2) := by
  decide

/-- Vector K16, `CLI`. -/
theorem test_cli_K16 :
    after
      (at_ 0x8000#16 [0x58#8] []
        regs0)
      (fun t => (packP t.regs.p, t.totalCycles)) =
      some (0x20#8, 2) := by
  decide

/-- Vector K17, `SEI`. -/
theorem test_sei_K17 :
    after
      (at_ 0x8000#16 [0x78#8] []
        { regs0 with p := unpackRestore 0x20#8 })
      (fun t => (packP t.regs.p, t.totalCycles)) =
      some (0x24#8, 2) := by
  decide

/-- Vector K18, `CLV`. -/
theorem test_clv_K18 :
    after
      (at_ 0x8000#16 [0xB8#8] []
        { regs0 with p := unpackRestore 0x64#8 })
      (fun t => (packP t.regs.p, t.totalCycles)) =
      some (0x24#8, 2) := by
  decide

/-- Vector K19, `SED`. -/
theorem test_sed_K19 :
    after
      (at_ 0x8000#16 [0xF8#8] []
        regs0)
      (fun t => (packP t.regs.p, t.totalCycles)) =
      some (0x2C#8, 2) := by
  decide

/-- Vector K20, `CLD`. -/
theorem test_cld_K20 :
    after
      (at_ 0x8000#16 [0xD8#8] []
        { regs0 with p := unpackRestore 0x2C#8 })
      (fun t => (packP t.regs.p, t.totalCycles)) =
      some (0x24#8, 2) := by
  decide

/-- Vector K21, `NOP`. -/
theorem test_nop_K21 :
    after
      (at_ 0x8000#16 [0xEA#8] []
        { regs0 with a := 0x11#8, p := unpackRestore 0xE7#8 })
      (fun t => (packP t.regs.p, t.totalCycles)) =
      some (0xE7#8, 2) := by
  decide

/-! ## Undocumented opcodes (95_test_vectors.md, vectors U) -/

/-- Vector U6, `NOP $12FF,X (0x1C, cross)`. -/
theorem test_nop_U6 :
    after
      (at_ 0x8000#16 [0x1C#8, 0xFF#8, 0x12#8] []
        { regs0 with x := 0x01#8 })
      (fun t => (packP t.regs.p, t.totalCycles)) =
      some (0x24#8, 5) := by
  decide

/-- Vector U7, `LAX $10`. -/
theorem test_lax_U7 :
    after
      (at_ 0x8000#16 [0xA7#8, 0x10#8] [(0x0010, 0x81#8)]
        regs0)
      (fun t => (t.regs.a, t.regs.x, packP t.regs.p, t.totalCycles)) =
      some (0x81#8, 0x81#8, 0xA4#8, 3) := by
  decide

/-- Vector U28, `LAX ($40),Y (0xB3, cross)`. -/
theorem test_lax_U28 :
    after
      (at_ 0x8000#16 [0xB3#8, 0x40#8] [(0x0040, 0xFF#8), (0x0041, 0x20#8), (0x2100, 0x7E#8)]
        { regs0 with y := 0x01#8 })
      (fun t => (t.regs.a, t.regs.x, packP t.regs.p, t.totalCycles)) =
      some (0x7E#8, 0x7E#8, 0x24#8, 6) := by
  decide

/-- Vector U9, `SAX $10`. -/
theorem test_sax_U9 :
    after
      (at_ 0x8000#16 [0x87#8, 0x10#8] []
        { regs0 with a := 0xF0#8, x := 0x3C#8 })
      (fun t => (t.bus.mem.read 0x0010, packP t.regs.p, t.totalCycles)) =
      some (0x30#8, 0x24#8, 3) := by
  decide

/-- Vector U27, `SAX $10,Y (0x97)`. -/
theorem test_sax_U27 :
    after
      (at_ 0x8000#16 [0x97#8, 0x10#8] []
        { regs0 with a := 0xFF#8, x := 0x00#8, y := 0x01#8 })
      (fun t => (t.bus.mem.read 0x0011, packP t.regs.p, t.totalCycles)) =
      some (0x00#8, 0x24#8, 4) := by
  decide

/-- Vector U11, `SLO $10`. -/
theorem test_slo_U11 :
    after
      (at_ 0x8000#16 [0x07#8, 0x10#8] [(0x0010, 0x81#8)]
        { regs0 with a := 0x01#8 })
      (fun t => (t.regs.a, t.bus.mem.read 0x0010, packP t.regs.p, t.totalCycles)) =
      some (0x03#8, 0x02#8, 0x25#8, 5) := by
  decide

/-- Vector U26, `SLO $12FF,Y (0x1B, no penalty)`. -/
theorem test_slo_U26 :
    after
      (at_ 0x8000#16 [0x1B#8, 0xFF#8, 0x12#8] [(0x1300, 0x01#8)]
        { regs0 with a := 0x00#8, y := 0x01#8 })
      (fun t => (t.regs.a, t.bus.mem.read 0x1300, packP t.regs.p, t.totalCycles)) =
      some (0x02#8, 0x02#8, 0x24#8, 7) := by
  decide

/-- Vector U12, `RLA $10 with C=1`. -/
theorem test_rla_U12 :
    after
      (at_ 0x8000#16 [0x27#8, 0x10#8] [(0x0010, 0x40#8)]
        { regs0 with a := 0xFF#8, p := unpackRestore 0x25#8 })
      (fun t => (t.regs.a, t.bus.mem.read 0x0010, packP t.regs.p, t.totalCycles)) =
      some (0x81#8, 0x81#8, 0xA4#8, 5) := by
  decide

/-- Vector U13, `SRE $10`. -/
theorem test_sre_U13 :
    after
      (at_ 0x8000#16 [0x47#8, 0x10#8] [(0x0010, 0x03#8)]
        { regs0 with a := 0x01#8 })
      (fun t => (t.regs.a, t.bus.mem.read 0x0010, packP t.regs.p, t.totalCycles)) =
      some (0x00#8, 0x01#8, 0x27#8, 5) := by
  decide

/-- Vector U14, `RRA $10 with C=1`. -/
theorem test_rra_U14 :
    after
      (at_ 0x8000#16 [0x67#8, 0x10#8] [(0x0010, 0x02#8)]
        { regs0 with a := 0x01#8, p := unpackRestore 0x25#8 })
      (fun t => (t.regs.a, t.bus.mem.read 0x0010, packP t.regs.p, t.totalCycles)) =
      some (0x82#8, 0x81#8, 0xA4#8, 5) := by
  decide

/-- Vector U20, `DCP ($10,X)`. -/
theorem test_dcp_U20 :
    after
      (at_ 0x8000#16 [0xC3#8, 0x0F#8] [(0x0010, 0x00#8), (0x0011, 0x03#8), (0x0300, 0x11#8)]
        { regs0 with a := 0x10#8, x := 0x01#8 })
      (fun t => (t.bus.mem.read 0x0300, packP t.regs.p, t.totalCycles)) =
      some (0x10#8, 0x27#8, 8) := by
  decide

/-- Vector U17, `ISB $10`. -/
theorem test_isb_U17 :
    after
      (at_ 0x8000#16 [0xE7#8, 0x10#8] [(0x0010, 0x01#8)]
        { regs0 with a := 0x05#8, p := unpackRestore 0x25#8 })
      (fun t => (t.regs.a, t.bus.mem.read 0x0010, packP t.regs.p, t.totalCycles)) =
      some (0x03#8, 0x02#8, 0x25#8, 5) := by
  decide

/-- Vector U21, `ISB $12FF,X (no penalty)`. -/
theorem test_isb_U21 :
    after
      (at_ 0x8000#16 [0xFF#8, 0xFF#8, 0x12#8] [(0x1300, 0xFF#8)]
        { regs0 with a := 0x00#8, x := 0x01#8, p := unpackRestore 0x25#8 })
      (fun t => (t.bus.mem.read 0x1300, packP t.regs.p, t.totalCycles)) =
      some (0x00#8, 0x27#8, 7) := by
  decide

/-- Vector U18, `ANC #$80`. -/
theorem test_anc_U18 :
    after
      (at_ 0x8000#16 [0x0B#8, 0x80#8] []
        { regs0 with a := 0xFF#8 })
      (fun t => (t.regs.a, packP t.regs.p, t.totalCycles)) =
      some (0x80#8, 0xA5#8, 2) := by
  decide

/-- Vector U19, `ANC #$7F (0x2B)`. -/
theorem test_anc_U19 :
    after
      (at_ 0x8000#16 [0x2B#8, 0x7F#8] []
        { regs0 with a := 0xFF#8, p := unpackRestore 0x25#8 })
      (fun t => (t.regs.a, packP t.regs.p, t.totalCycles)) =
      some (0x7F#8, 0x24#8, 2) := by
  decide

/-- Vector U22, `SHY $0210,X no cross`. -/
theorem test_shy_U22 :
    after
      (at_ 0x8000#16 [0x9C#8, 0x10#8, 0x02#8] []
        { regs0 with x := 0x01#8, y := 0xFF#8 })
      (fun t => (t.bus.mem.read 0x0211, packP t.regs.p, t.totalCycles)) =
      some (0x03#8, 0x24#8, 5) := by
  decide

/-- Vector U23, `SHY $02F0,X cross`. -/
theorem test_shy_U23 :
    after
      (at_ 0x8000#16 [0x9C#8, 0xF0#8, 0x02#8] []
        { regs0 with x := 0x20#8, y := 0x01#8 })
      (fun t => (t.bus.mem.read 0x0110, packP t.regs.p, t.totalCycles)) =
      some (0x01#8, 0x24#8, 5) := by
  decide

/-- Vector U24, `SHX $0210,Y no cross`. -/
theorem test_shx_U24 :
    after
      (at_ 0x8000#16 [0x9E#8, 0x10#8, 0x02#8] []
        { regs0 with x := 0x0F#8, y := 0x01#8 })
      (fun t => (t.bus.mem.read 0x0211, packP t.regs.p, t.totalCycles)) =
      some (0x03#8, 0x24#8, 5) := by
  decide

/-- Vector U25, `SHX $02F0,Y cross`. -/
theorem test_shx_U25 :
    after
      (at_ 0x8000#16 [0x9E#8, 0xF0#8, 0x02#8] []
        { regs0 with x := 0x02#8, y := 0x20#8 })
      (fun t => (t.bus.mem.read 0x0210, packP t.regs.p, t.totalCycles)) =
      some (0x02#8, 0x24#8, 5) := by
  decide

/-! ## BRK and RTI (95_test_vectors.md, vectors E) -/

/-- Vector E2, `BRK with D=1, C=1`. -/
theorem test_brk_E2 :
    after
      (at_ 0x8000#16 [0x00#8, 0xEA#8] [(0xFFFE, 0x00#8), (0xFFFF, 0xD0#8)]
        { regs0 with p := unpackRestore 0x2D#8 })
      (fun t => (t.regs.sp, t.regs.pc, t.bus.mem.read 0x01FB, t.bus.mem.read 0x01FC, packP t.regs.p, t.totalCycles)) =
      some (0xFA#8, 0xD000#16, 0x3D#8, 0x02#8, 0x2D#8, 7) := by
  decide

/-- Vector E3, `RTI (pulled 0xFF)`. -/
theorem test_rti_E3 :
    after
      (at_ 0x8000#16 [0x40#8] [(0x01FB, 0xFF#8), (0x01FC, 0x00#8), (0x01FD, 0x90#8)]
        { regs0 with sp := 0xFA#8 })
      (fun t => (t.regs.sp, t.regs.pc, packP t.regs.p, t.totalCycles)) =
      some (0xFD#8, 0x9000#16, 0xEF#8, 6) := by
  decide

/-- Vector E4, `RTI (pulled 0x00, SP wrap)`. -/
theorem test_rti_E4 :
    after
      (at_ 0x8000#16 [0x40#8] [(0x0100, 0x34#8), (0x0101, 0x12#8), (0x01FF, 0x00#8)]
        { regs0 with sp := 0xFE#8, p := unpackRestore 0xFF#8 })
      (fun t => (t.regs.sp, t.regs.pc, packP t.regs.p, t.totalCycles)) =
      some (0x01#8, 0x1234#16, 0x20#8, 6) := by
  decide

/-- INY wraps (rule R104). -/
theorem test_iny_wraps :
    after (at_ 0x8000#16 [0xC8#8] [] { regs0 with y := 0xFF#8 })
      (fun t => (t.regs.y, packP t.regs.p, t.totalCycles)) =
      some (0x00#8, 0x26#8, 2) := by
  decide

/-- BRK at 0xFFFF saves 0x0001: the padding byte's address wraps (rule R159; 95_test_vectors.md §2.7). -/
theorem test_brk_at_top_of_memory :
    after (at_ 0xFFFF#16 [] [(0xFFFC, 0xFF#8), (0xFFFD, 0xFF#8)] regs0)
      (fun t => (t.bus.mem.read 0x01FD, t.bus.mem.read 0x01FC, t.regs.pc)) =
      some (0x00#8, 0x01#8, 0x0000#16) := by
  decide

/-- What the bus answers is the oracle's where it says something: LDA $2002 sees the answer, not the memory
(decision D2). -/
theorem test_lda_sees_the_bus_answer :
    after ((at_ 0x8000#16 [0xAD#8, 0x02#8, 0x20#8] [] regs0).setBus
        { (at_ 0x8000#16 [0xAD#8, 0x02#8, 0x20#8] [] regs0).bus with answers := [none, none, none, some 0x80#8] })
      (fun t => (t.regs.a, t.bus.answers)) =
      some (0x80#8, []) := by
  decide

/-- The transactions of vector V4, newest first (95_test_vectors.md §1.1). -/
theorem test_dcp_transactions :
    after (at_ 0x8000#16 [0xC7#8, 0x10#8] [(0x0010, 0x06#8)] { regs0 with a := 0x05#8 }) (fun t => t.bus.trace) =
      some [.store 0x0010#16 0x05#8, .load 0x0010#16 0x06#8, .load 0x8001#16 0x10#8, .load 0x8000#16 0xC7#8] := by
  decide

/-! ## Unsupported opcodes (vectors F) -/

/-- Vector F1: the record holds the opcode and PC past it. -/
theorem test_unsupported_F1 :
    fatalOf (at_ 0x8000#16 [0x02#8] [] { regs0 with a := 0x11#8 }) =
      some { opcode := 0x02#8
             snapshot := { a := 0x11#8, x := 0x00#8, y := 0x00#8, pc := 0x8001#16, sp := 0xFD#8, p := 0x24#8 } } := by
  decide

/-- Vector F2: a faulted core returns the same record with no bus access. -/
theorem test_unsupported_F2 :
    ((hostRun [.step, .step] (at_ 0x8000#16 [0x02#8] [] regs0)).1.map (· == .done),
      (hostRun [.step, .step] (at_ 0x8000#16 [0x02#8] [] regs0)).2.bus.trace) =
      ([false, false], [.load 0x8000#16 0x02#8]) := by
  decide

/-- Vector F3: `nmi()` and `irq()` do nothing on a faulted core. -/
theorem test_unsupported_F3 :
    (hostRun [.step, .nmi, .irq] (at_ 0x8000#16 [0x02#8] [] regs0)).1.drop 1 = [.cycles 0, .cycles 0] := by
  decide

/-- Vector F4: `reset()` clears the fault. -/
theorem test_unsupported_F4 :
    (hostRun [.step, .reset] (at_ 0x8000#16 [0x02#8] [(0xFFFD, 0x80#8)] regs0)).2.fault = none := by
  decide

/-- Vector F5, the eight mnemonics other than JAM. -/
theorem test_unsupported_F5 :
    [0x4B#8, 0x6B#8, 0x8B#8, 0x93#8, 0x9B#8, 0xAB#8, 0xBB#8, 0xCB#8].map
        (fun op => (fatalOf (at_ 0x8000#16 [op] [] regs0)).map (fun r => (r.opcode, r.snapshot.pc))) =
      [0x4B#8, 0x6B#8, 0x8B#8, 0x93#8, 0x9B#8, 0xAB#8, 0xBB#8, 0xCB#8].map
        (fun op => some (op, 0x8001#16)) := by
  decide

/-! ## Interrupts (vectors I) -/

/-- Vector I1: the NMI frame, and I unchanged. -/
theorem test_nmi_I1 :
    (let t := (nmi (at_ 0x8123#16 [] [(0xFFFB, 0xC0#8)] regs0)).2
     (t.bus.mem.read 0x01FD, t.bus.mem.read 0x01FC, t.bus.mem.read 0x01FB, t.regs.pc)) =
      (0x81#8, 0x23#8, 0x24#8, 0xC000#16) := by
  decide

/-- Vector I5: the stored B is pushed, and the stack wraps within its page. -/
theorem test_nmi_I5 :
    (let t := (nmi (at_ 0x8000#16 [] [(0xFFFB, 0xC0#8)]
        { regs0 with sp := 0x01#8, p := unpackRestore 0x34#8 })).2
     (t.bus.mem.read 0x0101, t.bus.mem.read 0x0100, t.bus.mem.read 0x01FF, t.regs.sp)) =
      (0x80#8, 0x00#8, 0x34#8, 0xFE#8) := by
  decide

/-- Vector I2: the IRQ advances PC and pushes bit 4 set. -/
theorem test_irq_I2 :
    (let t := (irq (at_ 0x8000#16 [] [(0xFFFF, 0xD0#8)] { regs0 with p := unpackRestore 0x20#8 })).2
     (t.bus.mem.read 0x01FC, t.bus.mem.read 0x01FB, packP t.regs.p, t.regs.pc)) =
      (0x01#8, 0x30#8, 0x24#8, 0xD000#16) := by
  decide

/-- Vector I3: a masked IRQ changes nothing. -/
theorem test_irq_I3 : irq (at_ 0x8000#16 [] [] regs0) = (0, at_ 0x8000#16 [] [] regs0) := by decide

/-- Vector I7: an NMI, then an IRQ taken at once. -/
theorem test_nmi_then_irq_I7 :
    (let t := (hostRun [.nmi, .irq] (at_ 0x8000#16 [] [(0xFFFB, 0xC0#8), (0xFFFF, 0xD0#8)]
        { regs0 with p := unpackRestore 0x20#8 })).2
     (t.bus.mem.read 0x01F9, t.regs.sp, t.totalCycles)) =
      (0x01#8, 0xF7#8, 14) := by
  decide

/-! ## OAM DMA (vectors D) -/

/-- Vectors D1, D2 and D4: the cost by the parity of `total_cycles + cyc` at the trigger. -/
theorem test_dma_cost :
    (dmaCycles (dmaParityCount Params.dmaParityBasis 0 4), dmaCycles (dmaParityCount Params.dmaParityBasis 1 4),
      dmaCycles (dmaParityCount Params.dmaParityBasis 1 5)) = (513, 514, 513) := by
  decide

/-- The first byte of the copy: one load from the page, one store to 0x2004 (rule R37). -/
theorem test_dma_pair :
    (oamCopyByte 0x02#8 0 { mem := [(0x0200, 0x5A#8)], answers := [], trace := [] }).trace =
      [.store 0x2004#16 0x5A#8, .load 0x0200#16 0x5A#8] := by
  decide

/-! ## Reset, snapshot and restore (vectors Z) -/

/-- Vector Z1: PC from the vector, low byte first. -/
theorem test_reset_Z1 :
    (let t := hostReset (at_ 0x8000#16 [] [(0xFFFC, 0x34#8), (0xFFFD, 0x12#8)] { regs0 with a := 0x77#8 })
     (t.regs.pc, t.regs.a, t.bus.trace)) =
      (0x1234#16, 0x00#8, [.load 0xFFFD#16 0x12#8, .load 0xFFFC#16 0x34#8]) := by
  decide

/-- Vectors Z3 and Z4: B is kept, bit 5 reads 1. -/
theorem test_restore_Z3_Z4 :
    ((snapshot (restore ⟨0x01#8, 0x02#8, 0x03#8, 0xABCD#16, 0x10#8, 0xFF#8⟩ State.reset)).p,
      (snapshot (restore ⟨0x01#8, 0x02#8, 0x03#8, 0xABCD#16, 0x10#8, 0xCF#8⟩ State.reset)).p) = (0xFF#8, 0xEF#8) := by
  decide

/-! ## Memory's canonical form -/

theorem test_write_of_the_unlisted_byte_removes : Memory.write [(0x10, 0x05#8)] 0x10 0x00#8 = [] := by decide
theorem test_not_canonical : Memory.wf [(0x11, 0x05#8), (0x10, 0x05#8)] = false := by decide

/-! ## Witnesses: the hypotheses of each statement, met together -/

/-- LDA #$05 at 0x8000 after reset. -/
def sample : State := at_ 0x8000#16 [0xA9#8, 0x05#8] [] regs0

/-- An unsupported opcode at 0x8000 after reset. -/
def sampleBad : State := at_ 0x8000#16 [0x02#8] [] regs0

/-- STA $4014 at 0x8000, A = 0x02. -/
def sampleDma : State := at_ 0x8000#16 [0x8D#8, 0x14#8, 0x40#8] [] { regs0 with a := 0x02#8 }

/-- A completed step, as a statement about the next state needs one. -/
theorem sample_steps : ∃ t, step sample = .next t := ⟨_, rfl⟩

theorem witness_DecodedBytesAreTheEncoding :
    decode [0xA9#8, 0x05#8, 0xEA#8] = .ok (.ldaImm 0x05#8, [0xEA#8]) := rfl

theorem witness_UnsupportedOpcodesAreTheTwentyOne :
    Instr.axs ∈ unsupportedInstrs ∧ Instr.jam02 ∈ unsupportedInstrs := by
  decide

theorem witness_StepRunsTheDecodedInstruction :
    sample.fault = none ∧
      decode [fetched sample 0, fetched sample 1, fetched sample 2] = .ok (.ldaImm 0x05#8, [0x00#8]) ∧
      Instr.wellFormed (.ldaImm 0x05#8) = true :=
  ⟨rfl, rfl, rfl⟩

theorem witness_UnsupportedOpcodeIsFatal : sampleBad.fault = none ∧ fetched sampleBad 0 ∈ unsupportedOpcodes := by
  decide

theorem witness_StepStopsOnlyOnUnsupportedOpcodes :
    (sampleBad.fault ≠ none ∨ fetched sampleBad 0 ∈ unsupportedOpcodes) ∧
      ¬(sample.fault ≠ none ∨ fetched sample 0 ∈ unsupportedOpcodes) := by
  decide

/-- A step without a store to the trigger, as the bound of 8 asks. -/
theorem witness_StepCycleBounds :
    ∃ t, step sample = .next t ∧ t.bus.trace = [.load 0x8001#16 0x05#8, .load 0x8000#16 0xA9#8] ++ sample.bus.trace ∧
      ∀ v, BusEvent.store 0x4014#16 v ∉ [BusEvent.load 0x8001#16 0x05#8, .load 0x8000#16 0xA9#8] :=
  ⟨_, rfl, rfl, by simp⟩

/-- A step with one, which only the bound of 522 covers. -/
theorem witness_StepCycleBounds_dma :
    ∃ t, step sampleDma = .next t ∧ t.totalCycles = 517 := ⟨_, rfl, by simp [sampleDma]; rfl⟩

theorem witness_StepKeepsInvariant : sample.Inv ∧ ∃ t, step sample = .next t :=
  ⟨⟨by decide, rfl⟩, _, rfl⟩

theorem witness_HostCallsKeepInvariant : sample.Inv := ⟨by decide, rfl⟩

theorem witness_OnlyRestoreSetsBreak : (∀ r, HostCall.step ≠ .restore r) ∧ sample.BreakClear :=
  ⟨nofun, rfl⟩

theorem witness_StepBeginsWithTheOpcodeFetch : ∃ t, step sample = .next t := sample_steps

theorem witness_FaultedCoreIsQuiescent :
    (faulted 0x02#8 sampleBad).fault = some (fatalRecord 0x02#8 sampleBad) ∧
      HostCall.reset ∉ [HostCall.step, .nmi, .irq, .snapshot] ∧
      ∀ q, HostCall.restore q ∉ [HostCall.step, .nmi, .irq, .snapshot] :=
  ⟨rfl, by decide, by simp⟩

theorem witness_ResetStateIsResetOfEmptyMemory :
    (sample.setBus { mem := [], answers := [], trace := [] }).bus = { mem := [], answers := [], trace := [] } := rfl

theorem witness_NmiEntry : (faulted 0x02#8 sampleBad).fault ≠ none ∧ sample.fault = none := by decide

theorem witness_IrqEntry :
    (faulted 0x02#8 sampleBad).fault ≠ none ∧ (sample.fault = none ∧ sample.regs.p.i = true) ∧
      ((sample.setP { sample.regs.p with i := false }).fault = none ∧
        (sample.setP { sample.regs.p with i := false }).regs.p.i = false) := by
  decide

theorem witness_NmiThenIrqAreBothTaken :
    (sample.setP { sample.regs.p with i := false }).fault = none ∧
      (sample.setP { sample.regs.p with i := false }).regs.p.i = false := by
  decide

theorem witness_BrkThenRtiResumesPastThePadding : sample.bus.mem.wf = true ∧ sample.bus.answers = [] := by decide

theorem witness_JsrThenRtsReturns : sample.bus.mem.wf = true ∧ sample.bus.answers = [] := by decide

/-- The trigger's neighbours are plain addresses. -/
theorem witness_BusPrimitivesAreExactTransactions :
    (0x4013#16 : Addr) ≠ 0x4014#16 ∧ (0x4015#16 : Addr) ≠ 0x4014#16 ∧ (0x4014#16 : Addr) = 0x4014#16 := by
  decide

theorem witness_FlatMemoryGivesBackWhatWasStored :
    sample.bus.mem.wf = true ∧ sample.bus.answers = [] ∧ (0x0000#16 : Addr) ≠ 0xFFFF#16 := by
  decide

theorem witness_OamDmaCopiesThePage :
    (0x2003#16 : Addr) ≠ 0x2004#16 ∧ (0x2005#16 : Addr) ≠ 0x2004#16 ∧ sample.bus.mem.wf = true ∧
      sample.bus.answers = [] ∧ (0x1F#8 : Byte) ≠ 0x20#8 ∧ (0x21#8 : Byte) ≠ 0x20#8 := by
  decide

theorem witness_ResolverAndItsPatterns : ∀ m, Mode.zp 0x10#8 ≠ .imm m := nofun

theorem witness_BranchPageBasesAgree :
    (lo 0x80FD#16 ≠ 0xFE#8 ∧ lo 0x80FD#16 ≠ 0xFF#8) ∧ (lo 0x8000#16 ≠ 0xFE#8 ∧ lo 0x8000#16 ≠ 0xFF#8) := by
  decide

theorem witness_EveryAdmittedInstructionCompletes : Instr.wellFormed (.shxAbsY 0x0210#16) = true := by decide

/-- NOP answers a next state and is in none of the lists. -/
theorem witness_RegistersWrittenOnlyBy :
    (∃ t, exec .nop sample = .next t) ∧
      mnemonic .nop ∉ [.lda, .pla, .txa, .tya, .adc, .sbc, .and, .ora, .eor, .lax, .slo, .rla, .sre, .rra, .isb, .anc] ∧
      Instr.nop ∉ [.aslA, .lsrA, .rolA, .rorA] ∧ mnemonic .nop ∉ [.ldx, .tax, .tsx, .inx, .dex, .lax] ∧
      mnemonic .nop ∉ [.ldy, .tay, .iny, .dey] ∧
      mnemonic .nop ∉ [.txs, .pha, .php, .pla, .plp, .jsr, .rts, .brk, .rti] ∧
      mnemonic .nop ∉ [.bpl, .bmi, .bvc, .bvs, .bcc, .bcs, .bne, .beq, .jmp, .jsr, .rts, .brk, .rti] :=
  ⟨⟨_, rfl⟩, by decide, by decide, by decide, by decide, by decide, by decide⟩

/-- INX answers a next state and is in none of the lists for C, I, D, V and B; STA is in no list. -/
theorem witness_FlagsWrittenOnlyBy :
    (∃ t, exec .inx sample = .next t) ∧ (∃ t, exec (.staZp 0x10#8) sample = .next t) ∧
      mnemonic .inx ∉ [.adc, .sbc, .cmp, .cpx, .cpy, .asl, .lsr, .rol, .ror, .slo, .rla, .sre, .rra, .dcp, .isb, .anc,
        .clc, .sec, .plp, .rti] ∧
      mnemonic (.staZp 0x10#8) ∉ [.lda, .ldx, .ldy, .lax, .tax, .tay, .txa, .tya, .tsx, .and, .ora, .eor, .adc, .sbc,
        .cmp, .cpx, .cpy, .asl, .lsr, .rol, .ror, .inc, .dec, .inx, .iny, .dex, .dey, .pla, .slo, .rla, .sre, .rra, .dcp,
        .isb, .anc, .bit, .plp, .rti] ∧
      mnemonic .inx ∉ [.cli, .sei, .plp, .rti, .brk] ∧ mnemonic .inx ∉ [.cld, .sed, .plp, .rti] ∧
      mnemonic .inx ∉ [.adc, .sbc, .rra, .isb, .bit, .clv, .plp, .rti] ∧ mnemonic .inx ∉ [.plp, .rti] :=
  ⟨⟨_, rfl⟩, ⟨_, rfl⟩, by decide, by decide, by decide, by decide, by decide, by decide⟩

/-- A store next to the DMA trigger leaves the trigger and OAM_DATA_ADDR outside; a store to the trigger does not. -/
theorem witness_MemoryWrittenOnlyAtTargets :
    (∃ t, exec (.staAbs 0x4013#16) sample = .next t) ∧ 0x4014#16 ∉ storedAddrs (.staAbs 0x4013#16) sample ∧
      0x2004#16 ∉ storedAddrs (.staAbs 0x4013#16) sample ∧ 0x2004#16 ∈ storedAddrs (.staAbs 0x4014#16) sample :=
  ⟨⟨_, rfl⟩, by decide, by decide, by decide⟩

theorem witness_DecimalFlagAffectsNothing :
    Instr.wellFormed (.adcImm 0x19#8) = true ∧
      mnemonic (.adcImm 0x19#8) ∉ [.php, .brk, .cld, .sed, .plp, .rti] := by
  decide

end Sys2Proof.Tests
end

section
/-! Loads and stores (42_load_store.md, rules R76 to R81): each row of a mnemonic is encoded as its rule says and
executes the mnemonic's operation, and each operation leaves the state the statements describe. -/

namespace Sys2Proof.Proofs

open Sys2Proof.Machine Sys2Proof.Claims

section
variable (mode : Mode) (s : State)

/-! ## What the operations leave -/

/-- Reading the operand keeps the registers, so only A, Z and N differ from those before (rule R76). -/
theorem opLda_eq_afterRead :
    opLda mode s = afterRead mode (fun v g => { g with a := v, p := zn v g.p }) s := by
  simp [opLda, afterRead, State.setA, State.setP, setZN, zn]

/-- Reading the operand keeps the registers, so only X, Z and N differ from those before (rule R77). -/
theorem opLdx_eq_afterRead :
    opLdx mode s = afterRead mode (fun v g => { g with x := v, p := zn v g.p }) s := by
  simp [opLdx, afterRead, State.setX, State.setP, setZN, zn]

/-- Reading the operand keeps the registers, so only Y, Z and N differ from those before (rule R78). -/
theorem opLdy_eq_afterRead :
    opLdy mode s = afterRead mode (fun v g => { g with y := v, p := zn v g.p }) s := by
  simp [opLdy, afterRead, State.setY, State.setP, setZN, zn]

/-- Putting back the registers that `writeOp` kept changes nothing (rules R57 and R58). -/
theorem writeOp_eq_afterStore (v : Byte) : writeOp mode v s = afterStore mode v s := by
  have hregs : (memWrite (resolve mode s).1 v (resolve mode s).2).regs = s.regs := by
    rw [memWrite_regs, resolve_regs]
  rw [writeOp_eq, afterStore, ← hregs]

end

/-! ## What the rows execute -/

/-- The row is taken apart in the statement, so that its opcode is a literal where `baseCycles` looks it up. -/
theorem encoded_mk {i : Instr} {mode : Mode} {op : Byte} {n c : Nat} (hop : i.opcode = op)
    (hlen : (encode i).length = n) (hcyc : baseCycles op = c) : Row.Encoded ⟨i, mode, op, n, c⟩ :=
  ⟨hop, hlen, hcyc⟩

section
variable {r : Row} {m z : Byte} {w : Addr} (s : State)

theorem exec_of_mem_ldaRows (hr : r ∈ ldaRows m z w) :
    r.Encoded ∧ exec r.instr s = .next (opLda r.mode s) := by
  fin_cases hr <;> exact ⟨encoded_mk rfl rfl rfl, rfl⟩

theorem exec_of_mem_ldxRows (hr : r ∈ ldxRows m z w) :
    r.Encoded ∧ exec r.instr s = .next (opLdx r.mode s) := by
  fin_cases hr <;> exact ⟨encoded_mk rfl rfl rfl, rfl⟩

theorem exec_of_mem_ldyRows (hr : r ∈ ldyRows m z w) :
    r.Encoded ∧ exec r.instr s = .next (opLdy r.mode s) := by
  fin_cases hr <;> exact ⟨encoded_mk rfl rfl rfl, rfl⟩

theorem exec_of_mem_staRows (hr : r ∈ staRows m z w) :
    r.Encoded ∧ exec r.instr s = .next (opSta r.mode s) := by
  fin_cases hr <;> exact ⟨encoded_mk rfl rfl rfl, rfl⟩

theorem exec_of_mem_stxRows (hr : r ∈ stxRows m z w) :
    r.Encoded ∧ exec r.instr s = .next (opStx r.mode s) := by
  fin_cases hr <;> exact ⟨encoded_mk rfl rfl rfl, rfl⟩

theorem exec_of_mem_styRows (hr : r ∈ styRows m z w) :
    r.Encoded ∧ exec r.instr s = .next (opSty r.mode s) := by
  fin_cases hr <;> exact ⟨encoded_mk rfl rfl rfl, rfl⟩

end

/-- Settles O38: every row executes its mnemonic's operation, which leaves the state after the read. -/
theorem loadResults : Obligations.LoadResults := by
  intro s m z w
  refine ⟨fun r hr => ?lda, fun r hr => ?ldx, fun r hr => ?ldy⟩
  case lda => rw [← opLda_eq_afterRead]; exact exec_of_mem_ldaRows s hr
  case ldx => rw [← opLdx_eq_afterRead]; exact exec_of_mem_ldxRows s hr
  case ldy => rw [← opLdy_eq_afterRead]; exact exec_of_mem_ldyRows s hr

/-- Settles O39: every row executes `writeOp` of its register, which leaves the state after the store. -/
theorem storeResults : Obligations.StoreResults := by
  intro s m z w
  refine ⟨fun r hr => ?sta, fun r hr => ?stx, fun r hr => ?sty⟩
  case sta => rw [← writeOp_eq_afterStore]; exact exec_of_mem_staRows s hr
  case stx => rw [← writeOp_eq_afterStore]; exact exec_of_mem_stxRows s hr
  case sty => rw [← writeOp_eq_afterStore]; exact exec_of_mem_styRows s hr

end Sys2Proof.Proofs
end

section
/-! Add, subtract, logic, bit test and compare (43_alu.md, rules R83 to R94): the arithmetic of the flag functions,
then the operation each row of a mnemonic executes and the state that operation leaves. -/

namespace Sys2Proof.Proofs

open Sys2Proof.Machine Sys2Proof.Claims

/-! ## The arithmetic of the flag functions -/

section
variable (a r m v : Byte) (p : Flags)

theorem getLsbD_seven : v.getLsbD 7 = decide (128 ≤ v.toNat) :=
  v.msb_eq_decide

/-- Masking with bit 7 leaves something exactly when the sign bit is set. -/
theorem and_0x80_ne_zero : ((v &&& 0x80#8) != 0x00#8) = v.msb := by
  revert v
  decide

/-- Formula G8: V says that the sign bit of the result differs from both operands' sign bits (rule R83). -/
theorem addWithCarry_v_eq_msb :
    (addWithCarry a m p).2.v =
      ((a.msb ^^ (addWithCarry a m p).1.msb) && (m.msb ^^ (addWithCarry a m p).1.msb)) := by
  simp [addWithCarry, setZN, and_0x80_ne_zero]

/-- The sign bits differ so exactly when the signed sum does not fit in a byte (rule R83). -/
theorem addWithCarry_v :
    (addWithCarry a m p).2.v =
      decide (a.toInt + m.toInt + (p.c.toNat : Int) < -128 ∨ 127 < a.toInt + m.toInt + (p.c.toNat : Int)) := by
  have hc : p.c.toNat ≤ 1 := Bool.toNat_le p.c
  have ha := a.isLt
  have hm := m.isLt
  rw [addWithCarry_v_eq_msb, addWithCarry_fst, Bool.eq_iff_iff]
  simp only [BitVec.msb_eq_decide, BitVec.toInt_eq_toNat_cond, BitVec.toNat_ofNat, Bool.and_eq_true, bne_iff_ne,
    ne_eq, decide_eq_decide, decide_eq_true_eq]
  split <;> split <;> omega

/-- Negation in two's complement is the complement plus one. -/
theorem toInt_not_byte : (~~~m).toInt = -m.toInt - 1 := by
  have hm := m.isLt
  rw [BitVec.toInt_eq_toNat_cond, BitVec.toInt_eq_toNat_cond, BitVec.toNat_not]
  split <;> split <;> omega

/-- The byte of a subtraction is the difference less the borrow, modulo 256 (rule R84). -/
theorem subtractWithCarry_fst :
    ((subtractWithCarry a m p).1.toNat : Int) = ((a.toNat : Int) - m.toNat - (1 - p.c.toNat)) % 256 := by
  have hm := m.isLt
  rw [subtractWithCarry, addWithCarry_fst, BitVec.toNat_ofNat, BitVec.toNat_not]
  omega

/-- The carry of a subtraction says that there was no borrow (rule R84). -/
theorem subtractWithCarry_c :
    (subtractWithCarry a m p).2.c = decide ((m.toNat : Int) + (1 - p.c.toNat) ≤ a.toNat) := by
  have hm := m.isLt
  rw [subtractWithCarry, addWithCarry_c, BitVec.toNat_not, decide_eq_decide]
  omega

/-- The overflow of a subtraction says that the signed difference does not fit in a byte (rule R84). -/
theorem subtractWithCarry_v :
    (subtractWithCarry a m p).2.v =
      decide (a.toInt - m.toInt - (1 - p.c.toNat) < -128 ∨ 127 < a.toInt - m.toInt - (1 - p.c.toNat)) := by
  rw [subtractWithCarry, addWithCarry_v, toInt_not_byte, decide_eq_decide]
  omega

/-- A difference is zero exactly when the operands are equal (rule R85). -/
theorem compareFlags_z : (compareFlags r m p).z = decide (r = m) := by
  rw [compareFlags, setZN_z, beq_eq_decide, decide_eq_decide]
  exact sub_eq_zero

/-- N is bit 7 of the difference modulo 256 (rule R85). -/
theorem compareFlags_n :
    (compareFlags r m p).n = decide (128 ≤ (r.toNat + (256 - m.toNat)) % 256) := by
  rw [compareFlags, setZN_n, getLsbD_seven, BitVec.toNat_sub, Nat.add_comm]

end

/-- Settles O35: the complement of `m` is `255 - m` unsigned and `-m - 1` signed, so the sum is the difference. -/
theorem subtractWithCarryIsTheDifference : Obligations.SubtractWithCarryIsTheDifference := by
  intro a m p
  have hborrow : (if p.c then 0 else 1 : Int) = 1 - p.c.toNat := by cases p.c <;> rfl
  simp only [hborrow]
  have hxor : ~~~m = m ^^^ 0xFF#8 := BitVec.xor_allOnes.symm
  rw [← hxor]
  exact ⟨rfl, rfl, subtractWithCarry_fst a m p, subtractWithCarry_c a m p, subtractWithCarry_v a m p⟩

/-- Settles O36: Z and N come from the difference, C from the comparison itself. -/
theorem compareIsUnsigned : Obligations.CompareIsUnsigned := by
  intro r m p
  rw [← compareFlags_z r m p, ← compareFlags_n r m p]
  rfl

/-! ## What the operations leave -/

section
variable (mode : Mode) (s : State)

/-- Reading an operand keeps the registers (rule R58), so an operation may take them from after the read. -/
theorem afterRead_eq_setRegs (g : Byte → Regs → Regs) :
    afterRead mode g s = (readOp mode s).2.setRegs (g (readOp mode s).1 (readOp mode s).2.regs) := by
  rw [readOp_regs]; rfl

/-- ADC writes A and the flags of the sum (rule R86). -/
theorem opAdc_eq_afterRead :
    opAdc mode s = afterRead mode (fun v g =>
      { g with a := (addWithCarry g.a v g.p).1, p := (addWithCarry g.a v g.p).2 }) s := by
  rw [afterRead_eq_setRegs]; rfl

/-- SBC writes A and the flags of the sum with the complement (rule R87). -/
theorem opSbc_eq_afterRead :
    opSbc mode s = afterRead mode (fun v g =>
      { g with a := (addWithCarry g.a (~~~v) g.p).1, p := (addWithCarry g.a (~~~v) g.p).2 }) s := by
  rw [afterRead_eq_setRegs]; rfl

/-- AND writes A, Z and N (rule R88). -/
theorem opAnd_eq_afterRead :
    opAnd mode s = afterRead mode (fun v g => { g with a := g.a &&& v, p := zn (g.a &&& v) g.p }) s := by
  rw [afterRead_eq_setRegs]; rfl

/-- ORA writes A, Z and N (rule R89). -/
theorem opOra_eq_afterRead :
    opOra mode s = afterRead mode (fun v g => { g with a := g.a ||| v, p := zn (g.a ||| v) g.p }) s := by
  rw [afterRead_eq_setRegs]; rfl

/-- EOR writes A, Z and N (rule R90). -/
theorem opEor_eq_afterRead :
    opEor mode s = afterRead mode (fun v g => { g with a := g.a ^^^ v, p := zn (g.a ^^^ v) g.p }) s := by
  rw [afterRead_eq_setRegs]; rfl

/-- BIT writes Z, V and N (rule R91). -/
theorem opBit_eq_afterRead :
    opBit mode s = afterRead mode (fun v g =>
      { g with p := { g.p with z := decide (g.a &&& v = 0x00#8), v := v.getLsbD 6, n := v.getLsbD 7 } }) s := by
  rw [afterRead_eq_setRegs, ← beq_eq_decide]; rfl

/-- CMP writes the flags of the comparison with A (rule R92). -/
theorem opCmp_eq_afterRead :
    opCmp mode s = afterRead mode (fun v g => { g with p := compareFlags g.a v g.p }) s := by
  rw [afterRead_eq_setRegs]; rfl

/-- CPX writes the flags of the comparison with X (rule R93). -/
theorem opCpx_eq_afterRead :
    opCpx mode s = afterRead mode (fun v g => { g with p := compareFlags g.x v g.p }) s := by
  rw [afterRead_eq_setRegs]; rfl

/-- CPY writes the flags of the comparison with Y (rule R94). -/
theorem opCpy_eq_afterRead :
    opCpy mode s = afterRead mode (fun v g => { g with p := compareFlags g.y v g.p }) s := by
  rw [afterRead_eq_setRegs]; rfl

end

/-! ## What the rows execute -/

section
variable {r : Row} {m z : Byte} {w : Addr} (s : State)

theorem exec_of_mem_adcRows (hr : r ∈ adcRows m z w) :
    r.Encoded ∧ exec r.instr s = .next (opAdc r.mode s) := by
  fin_cases hr <;> exact ⟨encoded_mk rfl rfl rfl, rfl⟩

theorem exec_of_mem_sbcRows (hr : r ∈ sbcRows m z w) :
    r.Encoded ∧ exec r.instr s = .next (opSbc r.mode s) := by
  fin_cases hr <;> exact ⟨encoded_mk rfl rfl rfl, rfl⟩

theorem exec_of_mem_andRows (hr : r ∈ andRows m z w) :
    r.Encoded ∧ exec r.instr s = .next (opAnd r.mode s) := by
  fin_cases hr <;> exact ⟨encoded_mk rfl rfl rfl, rfl⟩

theorem exec_of_mem_oraRows (hr : r ∈ oraRows m z w) :
    r.Encoded ∧ exec r.instr s = .next (opOra r.mode s) := by
  fin_cases hr <;> exact ⟨encoded_mk rfl rfl rfl, rfl⟩

theorem exec_of_mem_eorRows (hr : r ∈ eorRows m z w) :
    r.Encoded ∧ exec r.instr s = .next (opEor r.mode s) := by
  fin_cases hr <;> exact ⟨encoded_mk rfl rfl rfl, rfl⟩

theorem exec_of_mem_bitRows (hr : r ∈ bitRows m z w) :
    r.Encoded ∧ exec r.instr s = .next (opBit r.mode s) := by
  fin_cases hr <;> exact ⟨encoded_mk rfl rfl rfl, rfl⟩

theorem exec_of_mem_cmpRows (hr : r ∈ cmpRows m z w) :
    r.Encoded ∧ exec r.instr s = .next (opCmp r.mode s) := by
  fin_cases hr <;> exact ⟨encoded_mk rfl rfl rfl, rfl⟩

theorem exec_of_mem_cpxRows (hr : r ∈ cpxRows m z w) :
    r.Encoded ∧ exec r.instr s = .next (opCpx r.mode s) := by
  fin_cases hr <;> exact ⟨encoded_mk rfl rfl rfl, rfl⟩

theorem exec_of_mem_cpyRows (hr : r ∈ cpyRows m z w) :
    r.Encoded ∧ exec r.instr s = .next (opCpy r.mode s) := by
  fin_cases hr <;> exact ⟨encoded_mk rfl rfl rfl, rfl⟩

end

/-- Settles O40: every row executes its mnemonic's operation, which leaves the state after the read. -/
theorem addSubtractResults : Obligations.AddSubtractResults := by
  intro s m z w
  refine ⟨fun r hr => ?adc, fun r hr => ?sbc⟩
  case adc => rw [← opAdc_eq_afterRead]; exact exec_of_mem_adcRows s hr
  case sbc => rw [← opSbc_eq_afterRead]; exact exec_of_mem_sbcRows s hr

/-- Settles O41: every row executes its mnemonic's operation, which leaves the state after the read. -/
theorem logicResults : Obligations.LogicResults := by
  intro s m z w
  refine ⟨fun r hr => ?and, fun r hr => ?ora, fun r hr => ?eor⟩
  case and => rw [← opAnd_eq_afterRead]; exact exec_of_mem_andRows s hr
  case ora => rw [← opOra_eq_afterRead]; exact exec_of_mem_oraRows s hr
  case eor => rw [← opEor_eq_afterRead]; exact exec_of_mem_eorRows s hr

/-- Settles O42: every row executes its mnemonic's operation, which leaves the state after the read. -/
theorem bitAndCompareResults : Obligations.BitAndCompareResults := by
  intro s m z w
  refine ⟨fun r hr => ?bit, fun r hr => ?cmp, fun r hr => ?cpx, fun r hr => ?cpy⟩
  case bit => rw [← opBit_eq_afterRead]; exact exec_of_mem_bitRows s hr
  case cmp => rw [← opCmp_eq_afterRead]; exact exec_of_mem_cmpRows s hr
  case cpx => rw [← opCpx_eq_afterRead]; exact exec_of_mem_cpxRows s hr
  case cpy => rw [← opCpy_eq_afterRead]; exact exec_of_mem_cpyRows s hr

end Sys2Proof.Proofs
end

section
/-! Shifts, rotates, increments and decrements (44_shift_incdec.md, rules R95 to R106): the state a read-modify-write
leaves, the function each memory row applies, and the registers the one-byte forms write. -/

namespace Sys2Proof.Proofs

open Sys2Proof.Machine Sys2Proof.Claims

/-! ## What the operations leave -/

section
variable (s : State)

/-- The store changes no register, so those after a read-modify-write are the ones before but for P (rule R58). -/
theorem rmwOp_snd_eq_afterRmw (mode : Mode) (f : Byte → Flags → Byte × Flags) :
    (rmwOp mode f s).2 = afterRmw mode (fun v p => (f v p).1) (fun v g => { g with p := (f v g.p).2 }) s :=
  rmwOp_eq mode s f

theorem setA_setP_eq_withRegs (f : Byte → Flags → Byte × Flags) :
    (s.setA (f s.regs.a s.regs.p).1).setP (f s.regs.a s.regs.p).2 =
      withRegs (fun g => { g with a := (f g.a g.p).1, p := (f g.a g.p).2 }) s := rfl

theorem setX_setP_eq_withRegs (f : Byte → Flags → Byte × Flags) :
    (s.setX (f s.regs.x s.regs.p).1).setP (f s.regs.x s.regs.p).2 =
      withRegs (fun g => { g with x := (f g.x g.p).1, p := (f g.x g.p).2 }) s := rfl

theorem setY_setP_eq_withRegs (f : Byte → Flags → Byte × Flags) :
    (s.setY (f s.regs.y s.regs.p).1).setP (f s.regs.y s.regs.p).2 =
      withRegs (fun g => { g with y := (f g.y g.p).1, p := (f g.y g.p).2 }) s := rfl

end

/-! ## What the rows execute -/

section
variable {r : Row} {m z : Byte} {w : Addr} (s : State)

theorem exec_of_mem_aslRows (hr : r ∈ aslRows m z w) :
    r.Encoded ∧ exec r.instr s = .next (rmwOp r.mode shiftL s).2 := by
  fin_cases hr <;> exact ⟨encoded_mk rfl rfl rfl, rfl⟩

theorem exec_of_mem_lsrRows (hr : r ∈ lsrRows m z w) :
    r.Encoded ∧ exec r.instr s = .next (rmwOp r.mode shiftR s).2 := by
  fin_cases hr <;> exact ⟨encoded_mk rfl rfl rfl, rfl⟩

theorem exec_of_mem_rolRows (hr : r ∈ rolRows m z w) :
    r.Encoded ∧ exec r.instr s = .next (rmwOp r.mode rotL s).2 := by
  fin_cases hr <;> exact ⟨encoded_mk rfl rfl rfl, rfl⟩

theorem exec_of_mem_rorRows (hr : r ∈ rorRows m z w) :
    r.Encoded ∧ exec r.instr s = .next (rmwOp r.mode rotR s).2 := by
  fin_cases hr <;> exact ⟨encoded_mk rfl rfl rfl, rfl⟩

theorem exec_of_mem_incRows (hr : r ∈ incRows m z w) :
    r.Encoded ∧ exec r.instr s = .next (rmwOp r.mode incByte s).2 := by
  fin_cases hr <;> exact ⟨encoded_mk rfl rfl rfl, rfl⟩

theorem exec_of_mem_decRows (hr : r ∈ decRows m z w) :
    r.Encoded ∧ exec r.instr s = .next (rmwOp r.mode decByte s).2 := by
  fin_cases hr <;> exact ⟨encoded_mk rfl rfl rfl, rfl⟩

end

/-- Settles O43: every memory row is a read-modify-write with its mnemonic's function, and the accumulator form
applies the same function to A. -/
theorem shiftResults : Obligations.ShiftResults := by
  intro s m z w
  simp only [← rmwOp_snd_eq_afterRmw]
  refine ⟨⟨fun r hr => ?asl, ⟨rfl, rfl⟩, ?aslA⟩, ⟨fun r hr => ?lsr, ⟨rfl, rfl⟩, ?lsrA⟩,
    ⟨fun r hr => ?rol, ⟨rfl, rfl⟩, ?rolA⟩, ⟨fun r hr => ?ror, ⟨rfl, rfl⟩, ?rorA⟩⟩
  case asl => exact exec_of_mem_aslRows s hr
  case lsr => exact exec_of_mem_lsrRows s hr
  case rol => exact exec_of_mem_rolRows s hr
  case ror => exact exec_of_mem_rorRows s hr
  case aslA => exact congrArg Host.Outcome.next (setA_setP_eq_withRegs s shiftL)
  case lsrA => exact congrArg Host.Outcome.next (setA_setP_eq_withRegs s shiftR)
  case rolA => exact congrArg Host.Outcome.next (setA_setP_eq_withRegs s rotL)
  case rorA => exact congrArg Host.Outcome.next (setA_setP_eq_withRegs s rotR)

/-- Settles O44: every memory row is a read-modify-write with `incByte` or `decByte`, and the implied forms apply
the same function to X or Y; both write Z and N only. -/
theorem incrementDecrementResults : Obligations.IncrementDecrementResults := by
  intro s m z w
  refine ⟨fun r hr => ?inc, fun r hr => ?dec, ⟨⟨rfl, rfl⟩, ?inx⟩, ⟨⟨rfl, rfl⟩, ?iny⟩, ⟨⟨rfl, rfl⟩, ?dex⟩,
    ⟨⟨rfl, rfl⟩, ?dey⟩⟩
  case inc => exact rmwOp_snd_eq_afterRmw s r.mode incByte ▸ exec_of_mem_incRows s hr
  case dec => exact rmwOp_snd_eq_afterRmw s r.mode decByte ▸ exec_of_mem_decRows s hr
  case inx => exact congrArg Host.Outcome.next (setX_setP_eq_withRegs s incByte)
  case iny => exact congrArg Host.Outcome.next (setY_setP_eq_withRegs s incByte)
  case dex => exact congrArg Host.Outcome.next (setX_setP_eq_withRegs s decByte)
  case dey => exact congrArg Host.Outcome.next (setY_setP_eq_withRegs s decByte)

end Sys2Proof.Proofs
end

section
/-! Jumps and subroutine return (45_control_transfer.md, rules R117 and R119): the state each operation leaves, and
the operation each row of JMP executes. -/

namespace Sys2Proof.Proofs

open Sys2Proof.Machine Sys2Proof.Claims

/-! ## What the operations leave -/

section
variable (s : State)

/-- The resolver keeps the registers, so only PC differs from those before (rules R57 and R117). -/
theorem opJmp_eq (mode : Mode) :
    opJmp mode s = { (resolve mode s).2 with regs := { s.regs with pc := (resolve mode s).1 } } := by
  simp only [opJmp, State.setPc, resolve_regs]

/-- The second pull reads one byte above the first, both within the stack page (rule R36). -/
theorem opRts_eq :
    let l := s.bus.load (word 0x01#8 (s.regs.sp + 1))
    let h := l.2.load (word 0x01#8 (s.regs.sp + 2))
    opRts s = { s with regs := { s.regs with pc := word h.1 l.1 + 1, sp := s.regs.sp + 2 }, bus := h.2 } := by
  have hsp : s.regs.sp + 2 = s.regs.sp + 1 + 1 := (BitVec.add_assoc s.regs.sp 1 1).symm
  rw [hsp]
  rfl

end

/-! ## What the rows execute -/

theorem exec_of_mem_jmpRows {r : Row} {m z : Byte} {w : Addr} (s : State) (hr : r ∈ jmpRows m z w) :
    r.Encoded ∧ exec r.instr s = .next (opJmp r.mode s) := by
  fin_cases hr <;> exact ⟨encoded_mk rfl rfl rfl, rfl⟩

/-- Settles O47: both rows of JMP execute `opJmp` of their mode, and RTS executes `opRts`; each leaves the state the
statement writes out. -/
theorem jumpAndReturnResults : Obligations.JumpAndReturnResults := by
  intro s m z w
  refine ⟨fun r hr => ?jmp, ⟨rfl, rfl⟩, ?rts⟩
  case jmp => rw [← opJmp_eq]; exact exec_of_mem_jmpRows s hr
  case rts => exact congrArg Host.Outcome.next (opRts_eq s)

end Sys2Proof.Proofs
end

section
/-! Stack, transfer and flag instructions, and RTI (46_stack_transfer_flags.md, rules R120 to R136; 60_exceptions.md,
rule R160): the state each operation leaves, then each instruction's encoding and execution. -/

namespace Sys2Proof.Proofs

open Sys2Proof.Machine Sys2Proof.Claims

/-! ## What the operations leave -/

section
variable (s : State)

/-- A push written as one state: the stack page is never the DMA's trigger (rules R8 and R35). -/
theorem push_eq_store_dec (v : Byte) :
    push v s =
      { s with regs := { s.regs with sp := s.regs.sp - 1 }, bus := s.bus.store (word 0x01#8 s.regs.sp) v } :=
  push_eq v s

/-- Pulling keeps A and P, so Z and N are set over the flags before the pull (rule R122). -/
theorem opPla_eq :
    let l := s.bus.load (word 0x01#8 (s.regs.sp + 1))
    opPla s =
      { s with regs := { s.regs with a := l.1, sp := s.regs.sp + 1, p := zn l.1 s.regs.p }, bus := l.2 } := rfl

/-- Every flag comes from the pulled byte, B being 0 (rule R123). -/
theorem opPlp_eq :
    let l := s.bus.load (word 0x01#8 (s.regs.sp + 1))
    opPlp s = { s with regs := { s.regs with sp := s.regs.sp + 1, p := unpackPull l.1 }, bus := l.2 } := rfl

/-- The three pulls read one byte above another within the stack page (rules R36 and R160). -/
theorem opRti_eq :
    let p := s.bus.load (word 0x01#8 (s.regs.sp + 1))
    let l := p.2.load (word 0x01#8 (s.regs.sp + 2))
    let h := l.2.load (word 0x01#8 (s.regs.sp + 3))
    opRti s =
      { s with
        regs := { s.regs with sp := s.regs.sp + 3, pc := word h.1 l.1, p := unpackPull p.1 }
        bus := h.2 } := by
  have hsp2 : s.regs.sp + 2 = s.regs.sp + 1 + 1 := (BitVec.add_assoc s.regs.sp 1 1).symm
  have hsp3 : s.regs.sp + 3 = s.regs.sp + 1 + 1 + 1 := by bv_omega
  rw [hsp2, hsp3]
  rfl

section
variable (source : Regs → Byte)

/-- A transfer to A of the register `source` (rules R126 and R127). -/
theorem setA_setZN_eq_withRegs :
    (s.setA (source s.regs)).setP (setZN (source s.regs) s.regs.p) =
      withRegs (fun g => { g with a := source g, p := zn (source g) g.p }) s := rfl

/-- A transfer to X of the register `source` (rules R124 and R128). -/
theorem setX_setZN_eq_withRegs :
    (s.setX (source s.regs)).setP (setZN (source s.regs) s.regs.p) =
      withRegs (fun g => { g with x := source g, p := zn (source g) g.p }) s := rfl

/-- A transfer to Y of the register `source` (rule R125). -/
theorem setY_setZN_eq_withRegs :
    (s.setY (source s.regs)).setP (setZN (source s.regs) s.regs.p) =
      withRegs (fun g => { g with y := source g, p := zn (source g) g.p }) s := rfl

/-- A transfer to SP writes no flag (rule R129). -/
theorem setSp_eq_withRegs :
    s.setSp (source s.regs) = withRegs (fun g => { g with sp := source g }) s := rfl

end

/-- Writing P from the old P writes no other register (rules R130 to R136). -/
theorem setP_eq_withRegs (f : Flags → Flags) :
    s.setP (f s.regs.p) = withRegs (fun g => { g with p := f g.p }) s := rfl

end

/-! ## The instructions -/

/-- Settles O48: PHA and PHP are one push, PLA and PLP one pull, RTI three pulls; each leaves the state the statement
writes out. -/
theorem stackAndRtiResults : Obligations.StackAndRtiResults := by
  intro s
  refine ⟨⟨⟨rfl, rfl⟩, ?pha⟩, ⟨⟨rfl, rfl⟩, ?php⟩, ⟨⟨rfl, rfl⟩, ?pla⟩, ⟨⟨rfl, rfl⟩, ?plp⟩, ⟨⟨rfl, rfl⟩, ?rti⟩⟩
  case pha => exact congrArg Host.Outcome.next (push_eq_store_dec s s.regs.a)
  case php => exact congrArg Host.Outcome.next (push_eq_store_dec s (packPush s.regs.p))
  case pla => exact congrArg Host.Outcome.next (opPla_eq s)
  case plp => exact congrArg Host.Outcome.next (opPlp_eq s)
  case rti => exact congrArg Host.Outcome.next (opRti_eq s)

/-- Settles O49: a transfer to A, X or Y sets Z and N from its source; the transfer to SP sets no flag. -/
theorem transferResults : Obligations.TransferResults := by
  intro s
  refine ⟨⟨⟨rfl, rfl⟩, ?tax⟩, ⟨⟨rfl, rfl⟩, ?tay⟩, ⟨⟨rfl, rfl⟩, ?txa⟩, ⟨⟨rfl, rfl⟩, ?tya⟩, ⟨⟨rfl, rfl⟩, ?tsx⟩,
    ⟨⟨rfl, rfl⟩, ?txs⟩⟩
  case tax => exact congrArg Host.Outcome.next (setX_setZN_eq_withRegs s Regs.a)
  case tay => exact congrArg Host.Outcome.next (setY_setZN_eq_withRegs s Regs.a)
  case txa => exact congrArg Host.Outcome.next (setA_setZN_eq_withRegs s Regs.x)
  case tya => exact congrArg Host.Outcome.next (setA_setZN_eq_withRegs s Regs.y)
  case tsx => exact congrArg Host.Outcome.next (setX_setZN_eq_withRegs s Regs.sp)
  case txs => exact congrArg Host.Outcome.next (setSp_eq_withRegs s Regs.x)

/-- Settles O50: each flag instruction is one write of P that changes one flag. -/
theorem flagInstructionResults : Obligations.FlagInstructionResults := by
  intro s
  refine ⟨⟨⟨rfl, rfl⟩, ?clc⟩, ⟨⟨rfl, rfl⟩, ?sec⟩, ⟨⟨rfl, rfl⟩, ?cli⟩, ⟨⟨rfl, rfl⟩, ?sei⟩, ⟨⟨rfl, rfl⟩, ?cld⟩,
    ⟨⟨rfl, rfl⟩, ?sed⟩, ⟨⟨rfl, rfl⟩, ?clv⟩⟩
  case clc => exact congrArg Host.Outcome.next (setP_eq_withRegs s fun p => { p with c := false })
  case sec => exact congrArg Host.Outcome.next (setP_eq_withRegs s fun p => { p with c := true })
  case cli => exact congrArg Host.Outcome.next (setP_eq_withRegs s fun p => { p with i := false })
  case sei => exact congrArg Host.Outcome.next (setP_eq_withRegs s fun p => { p with i := true })
  case cld => exact congrArg Host.Outcome.next (setP_eq_withRegs s fun p => { p with d := false })
  case sed => exact congrArg Host.Outcome.next (setP_eq_withRegs s fun p => { p with d := true })
  case clv => exact congrArg Host.Outcome.next (setP_eq_withRegs s fun p => { p with v := false })

end Sys2Proof.Proofs
end

section
/-! Undocumented combinations (47_undocumented.md, rules R143 to R148): each is a read-modify-write of memory, then
an ALU operation of A with the stored result, over the flags the first operation left. -/

namespace Sys2Proof.Proofs

open Sys2Proof.Machine Sys2Proof.Claims

/-! ## What the operations leave -/

section
variable (mode : Mode) (s : State)

/-- A second operation that turns the registers into `h result regs` sees A as before and P as the first operation
left it (rule R138). -/
theorem rmwOp_setRegs_eq_afterRmw (f : Byte → Flags → Byte × Flags) (h : Byte → Regs → Regs) :
    (rmwOp mode f s).2.setRegs (h (rmwOp mode f s).1 (rmwOp mode f s).2.regs) =
      afterRmw mode (fun v p => (f v p).1) (fun v g => h (f v g.p).1 { g with p := (f v g.p).2 }) s := by
  rw [rmwOp_regs, rmwOp_fst, rmwOp_eq]
  rfl

/-- SLO keeps the C of ASL; ORA writes A, Z and N (rule R143). -/
theorem opSlo_eq_afterRmw :
    opSlo mode s = afterRmw mode (fun v p => (shiftL v p).1) (fun v g =>
      { g with a := g.a ||| (shiftL v g.p).1, p := zn (g.a ||| (shiftL v g.p).1) (shiftL v g.p).2 }) s :=
  rmwOp_setRegs_eq_afterRmw mode s shiftL fun b g => { g with a := g.a ||| b, p := zn (g.a ||| b) g.p }

/-- RLA keeps the C of ROL; AND writes A, Z and N (rule R144). -/
theorem opRla_eq_afterRmw :
    opRla mode s = afterRmw mode (fun v p => (rotL v p).1) (fun v g =>
      { g with a := g.a &&& (rotL v g.p).1, p := zn (g.a &&& (rotL v g.p).1) (rotL v g.p).2 }) s :=
  rmwOp_setRegs_eq_afterRmw mode s rotL fun b g => { g with a := g.a &&& b, p := zn (g.a &&& b) g.p }

/-- SRE keeps the C of LSR; EOR writes A, Z and N (rule R145). -/
theorem opSre_eq_afterRmw :
    opSre mode s = afterRmw mode (fun v p => (shiftR v p).1) (fun v g =>
      { g with a := g.a ^^^ (shiftR v g.p).1, p := zn (g.a ^^^ (shiftR v g.p).1) (shiftR v g.p).2 }) s :=
  rmwOp_setRegs_eq_afterRmw mode s shiftR fun b g => { g with a := g.a ^^^ b, p := zn (g.a ^^^ b) g.p }

/-- The ADC of RRA takes the carry ROR left (rule R146). -/
theorem opRra_eq_afterRmw :
    opRra mode s = afterRmw mode (fun v p => (rotR v p).1) (fun v g =>
      let q := addWithCarry g.a (rotR v g.p).1 (rotR v g.p).2
      { g with a := q.1, p := q.2 }) s :=
  rmwOp_setRegs_eq_afterRmw mode s rotR fun b g =>
    { g with a := (addWithCarry g.a b g.p).1, p := (addWithCarry g.a b g.p).2 }

/-- The CMP of DCP rewrites the Z and N of DEC and keeps A (rule R147). -/
theorem opDcp_eq_afterRmw :
    opDcp mode s = afterRmw mode (fun v _ => v - 1) (fun v g =>
      { g with p := compareFlags g.a (v - 1) (zn (v - 1) g.p) }) s :=
  rmwOp_setRegs_eq_afterRmw mode s decByte fun b g => { g with p := compareFlags g.a b g.p }

/-- The SBC of ISB adds the complement of the incremented byte (rules R84 and R148). -/
theorem opIsb_eq_afterRmw :
    opIsb mode s = afterRmw mode (fun v _ => v + 1) (fun v g =>
      let q := addWithCarry g.a (~~~(v + 1)) (zn (v + 1) g.p)
      { g with a := q.1, p := q.2 }) s :=
  rmwOp_setRegs_eq_afterRmw mode s incByte fun b g =>
    { g with a := (subtractWithCarry g.a b g.p).1, p := (subtractWithCarry g.a b g.p).2 }

end

/-! ## What the rows execute -/

section
variable {r : Row} {m z : Byte} {w : Addr} (s : State)

theorem exec_of_mem_sloRows (hr : r ∈ sloRows m z w) :
    r.Encoded ∧ exec r.instr s = .next (opSlo r.mode s) := by
  fin_cases hr <;> exact ⟨encoded_mk rfl rfl rfl, rfl⟩

theorem exec_of_mem_rlaRows (hr : r ∈ rlaRows m z w) :
    r.Encoded ∧ exec r.instr s = .next (opRla r.mode s) := by
  fin_cases hr <;> exact ⟨encoded_mk rfl rfl rfl, rfl⟩

theorem exec_of_mem_sreRows (hr : r ∈ sreRows m z w) :
    r.Encoded ∧ exec r.instr s = .next (opSre r.mode s) := by
  fin_cases hr <;> exact ⟨encoded_mk rfl rfl rfl, rfl⟩

theorem exec_of_mem_rraRows (hr : r ∈ rraRows m z w) :
    r.Encoded ∧ exec r.instr s = .next (opRra r.mode s) := by
  fin_cases hr <;> exact ⟨encoded_mk rfl rfl rfl, rfl⟩

theorem exec_of_mem_dcpRows (hr : r ∈ dcpRows m z w) :
    r.Encoded ∧ exec r.instr s = .next (opDcp r.mode s) := by
  fin_cases hr <;> exact ⟨encoded_mk rfl rfl rfl, rfl⟩

theorem exec_of_mem_isbRows (hr : r ∈ isbRows m z w) :
    r.Encoded ∧ exec r.instr s = .next (opIsb r.mode s) := by
  fin_cases hr <;> exact ⟨encoded_mk rfl rfl rfl, rfl⟩

end

/-- Settles O52: every row executes its mnemonic's operation, which leaves the shifted byte stored and A combined
with it. -/
theorem shiftLogicCombinations : Obligations.ShiftLogicCombinations := by
  intro s m z w
  refine ⟨fun r hr => ?slo, fun r hr => ?rla, fun r hr => ?sre⟩
  case slo => rw [← opSlo_eq_afterRmw]; exact exec_of_mem_sloRows s hr
  case rla => rw [← opRla_eq_afterRmw]; exact exec_of_mem_rlaRows s hr
  case sre => rw [← opSre_eq_afterRmw]; exact exec_of_mem_sreRows s hr

/-- Settles O53: every row executes its mnemonic's operation, whose second half runs over the flags of the first. -/
theorem arithmeticCombinations : Obligations.ArithmeticCombinations := by
  intro s m z w
  refine ⟨fun r hr => ?rra, fun r hr => ?dcp, fun r hr => ?isb⟩
  case rra => rw [← opRra_eq_afterRmw]; exact exec_of_mem_rraRows s hr
  case dcp => rw [← opDcp_eq_afterRmw]; exact exec_of_mem_dcpRows s hr
  case isb => rw [← opIsb_eq_afterRmw]; exact exec_of_mem_isbRows s hr

end Sys2Proof.Proofs
end

section
/-! Encoding (30_encoding.md §1 and §2, rules R42 to R47): what an opcode and its operand bytes decode to, that the
decoder and the encoder undo each other, and which opcodes are unsupported. -/

namespace Sys2Proof.Proofs

open Sys2Proof.Machine Sys2Proof.Claims

/-! ## What an opcode and its operand bytes decode to -/

section
open Laws.OperandsDecode

/-- The per-instruction law, put together over the constructors of `Instr` in their order (rules R43 and R44). -/
theorem decodeOp_opcode_operands (i : Instr) : Laws.OperandsDecode.Statement i :=
  i.rec (motive := Laws.OperandsDecode.Statement)
    oraIndX sloIndX nopZp04 oraZp aslZp sloZp oraImm ancImm0B bpl oraIndY sloIndY nopZpX14 oraZpX aslZpX sloZpX
    andIndX rlaIndX bitZp andZp rolZp rlaZp andImm ancImm2B bmi andIndY rlaIndY nopZpX34 andZpX rolZpX rlaZpX
    eorIndX sreIndX nopZp44 eorZp lsrZp sreZp eorImm bvc eorIndY sreIndY nopZpX54 eorZpX lsrZpX sreZpX adcIndX
    rraIndX nopZp64 adcZp rorZp rraZp adcImm bvs adcIndY rraIndY nopZpX74 adcZpX rorZpX rraZpX nopImm80 staIndX
    nopImm82 saxIndX styZp staZp stxZp saxZp nopImm89 bcc staIndY styZpX staZpX stxZpY saxZpY ldyImm ldaIndX
    ldxImm laxIndX ldyZp ldaZp ldxZp laxZp ldaImm bcs ldaIndY laxIndY ldyZpX ldaZpX ldxZpY laxZpY cpyImm cmpIndX
    nopImmC2 dcpIndX cpyZp cmpZp decZp dcpZp cmpImm bne cmpIndY dcpIndY nopZpXD4 cmpZpX decZpX dcpZpX cpxImm
    sbcIndX nopImmE2 isbIndX cpxZp sbcZp incZp isbZp sbcImm sbcImmEB beq sbcIndY isbIndY nopZpXF4 sbcZpX incZpX
    isbZpX nopAbs0C oraAbs aslAbs sloAbs oraAbsY sloAbsY nopAbsX1C oraAbsX aslAbsX sloAbsX jsr bitAbs andAbs
    rolAbs rlaAbs andAbsY rlaAbsY nopAbsX3C andAbsX rolAbsX rlaAbsX jmpAbs eorAbs lsrAbs sreAbs eorAbsY sreAbsY
    nopAbsX5C eorAbsX lsrAbsX sreAbsX jmpInd adcAbs rorAbs rraAbs adcAbsY rraAbsY nopAbsX7C adcAbsX rorAbsX
    rraAbsX styAbs staAbs stxAbs saxAbs staAbsY shyAbsX staAbsX shxAbsY ldyAbs ldaAbs ldxAbs laxAbs ldaAbsY
    ldyAbsX ldaAbsX ldxAbsY laxAbsY cpyAbs cmpAbs decAbs dcpAbs cmpAbsY dcpAbsY nopAbsXDC cmpAbsX decAbsX
    dcpAbsX cpxAbs sbcAbs incAbs isbAbs sbcAbsY isbAbsY nopAbsXFC sbcAbsX incAbsX isbAbsX brk php aslA clc nop1A
    plp rolA sec nop3A rti pha lsrA cli nop5A rts pla rorA sei nop7A dey txa tya txs tay tax clv tsx iny dex cld
    nopDA inx nop sed nopFA jam02 jam12 jam22 jam32 jam42 alr jam52 jam62 arr jam72 xaa jam92 ahx93 tas ahx9F
    lxa jamB2 las axs jamD2 jamF2
end

/-- The operand bytes of an instruction `n` bytes long, taken from the two bytes after the opcode; a 16-bit operand
is put together and taken apart again (rules R30 and R42). -/
def operandBytes (n : Nat) (b1 b2 : Byte) : List Byte :=
  match n with
  | 1 => []
  | 2 => [b1]
  | _ => [lo (word b2 b1), hi (word b2 b1)]

/-- A fact of every byte is one of 256 numbers, each a literal the model can be evaluated at. -/
theorem forall_byte {P : Byte → Prop} (h : ∀ n < 256, P (BitVec.ofNat 8 n)) (b : Byte) : P b := by
  simpa using h b.toNat b.isLt

/-- An instruction holds the bytes it was decoded from, as many as its opcode says (rules R42 and R43). -/
theorem encode_decodeOp (op b1 b2 : Byte) :
    encode (decodeOp op b1 b2) = op :: operandBytes (lengthOf op) b1 b2 := by
  have hops : ∀ op b1 b2, (decodeOp op b1 b2).operands = operandBytes (lengthOf op) b1 b2 :=
    forall_byte fun n hn => by interval_cases n <;> exact fun _ _ => rfl
  rw [encode, opcode_decodeOp, hops]

/-- The operand bytes of an instruction are as many as its opcode says. -/
theorem operands_eq_operandBytes (i : Instr) :
    i.operands = operandBytes (lengthOf i.opcode) (i.operands.getD 0 0x00#8) (i.operands.getD 1 0x00#8) := by
  have h := encode_decodeOp i.opcode (i.operands.getD 0 0x00#8) (i.operands.getD 1 0x00#8)
  rw [decodeOp_opcode_operands i] at h
  exact List.tail_eq_of_cons_eq h

/-! ## The decoder, by the length of the opcode -/

section
variable {op : Byte}

theorem decode_of_lengthOf_one (h : lengthOf op = 1) (rest : List Byte) :
    decode (op :: rest) = .ok (decodeOp op 0x00#8 0x00#8, rest) := by
  simp [decode, h]

theorem decode_of_lengthOf_two (h : lengthOf op = 2) (b1 : Byte) (rest : List Byte) :
    decode (op :: b1 :: rest) = .ok (decodeOp op b1 0x00#8, rest) := by
  simp [decode, h]

theorem decode_of_lengthOf_three (h : lengthOf op = 3) (b1 b2 : Byte) (rest : List Byte) :
    decode (op :: b1 :: b2 :: rest) = .ok (decodeOp op b1 b2, rest) := by
  simp [decode, h]

end

/-- Settles O1: the operand bytes complete the opcode to the instruction again, and there are as many as the opcode
says. -/
theorem decodeEncodeRoundTrip : Obligations.DecodeEncodeRoundTrip := by
  intro i rest
  have hdec : decodeOp i.opcode (i.operands.getD 0 0x00#8) (i.operands.getD 1 0x00#8) = i :=
    decodeOp_opcode_operands i
  have hops := operands_eq_operandBytes i
  rcases lengthOf_cases i.opcode with hlen | hlen | hlen
  · have hnone : i.operands = [] := by rw [hops, hlen, operandBytes]
    rw [hnone] at hdec
    rw [encode, hnone]
    exact (decode_of_lengthOf_one hlen rest).trans (congrArg (fun j => Except.ok (j, rest)) hdec)
  · have hone : i.operands = [i.operands.getD 0 0x00#8] := by rwa [hlen, operandBytes] at hops
    rw [hone] at hdec
    rw [encode, hone]
    exact (decode_of_lengthOf_two hlen _ rest).trans (congrArg (fun j => Except.ok (j, rest)) hdec)
  · have htwo : i.operands = [i.operands.getD 0 0x00#8, i.operands.getD 1 0x00#8] := by
      simpa only [hlen, operandBytes, lo_word, hi_word] using hops
    rw [encode, htwo]
    exact (decode_of_lengthOf_three hlen _ _ rest).trans (congrArg (fun j => Except.ok (j, rest)) hdec)

/-- Settles O2: the decoder takes the opcode and as many bytes as it says, and the instruction holds those bytes. -/
theorem decodedBytesAreTheEncoding : Obligations.DecodedBytesAreTheEncoding := by
  intro bs rest i h
  match bs with
  | [] => cases h
  | op :: bs =>
    rcases lengthOf_cases op with hlen | hlen | hlen
    · rw [decode_of_lengthOf_one hlen] at h
      cases h
      simp [encode_decodeOp, hlen, operandBytes]
    · match bs with
      | [] => simp [decode, hlen] at h
      | b1 :: bs =>
        rw [decode_of_lengthOf_two hlen] at h
        cases h
        simp [encode_decodeOp, hlen, operandBytes]
    · match bs with
      | [] | [_] => simp [decode, hlen] at h
      | b1 :: b2 :: bs =>
        rw [decode_of_lengthOf_three hlen] at h
        cases h
        simp [encode_decodeOp, hlen, operandBytes]

/-- Settles O3: the decoder run on each word. -/
theorem specWordsDecode : Obligations.SpecWordsDecode :=
  ⟨rfl, rfl, rfl, rfl, rfl, rfl, rfl⟩

/-- Settles O4: an opcode has length 1, 2 or 3, and the decoder gives it its operand bytes. -/
theorem everyOpcodeDecodes : Obligations.EveryOpcodeDecodes := by
  intro op b1 b2
  rcases lengthOf_cases op with hlen | hlen | hlen
  · exact ⟨_, opcode_decodeOp op 0x00#8 0x00#8, by simp [encode_decodeOp, hlen, operandBytes], by omega, by omega,
      by rw [decode_of_lengthOf_one hlen, hlen]; rfl⟩
  · exact ⟨_, opcode_decodeOp op b1 0x00#8, by simp [encode_decodeOp, hlen, operandBytes], by omega, by omega,
      by rw [decode_of_lengthOf_two hlen, hlen]; rfl⟩
  · exact ⟨_, opcode_decodeOp op b1 b2, by simp [encode_decodeOp, hlen, operandBytes], by omega, by omega,
      by rw [decode_of_lengthOf_three hlen, hlen]; rfl⟩

/-! ## The unsupported opcodes -/

/-- With all 84 undocumented opcodes admitted and SHX and SHY defined, the opcode test of a step finds the opcodes of
rule R47 only (decisions D7 and D29). -/
theorem unsupported_eq_contains (op : Byte) : unsupported op = neverAdmitted.contains op := by
  simp [unsupported, Params.admittedUndocumented, Params.shxyFormula]

theorem unsupported_iff (op : Byte) : unsupported op = true ↔ op ∈ unsupportedOpcodes := by
  have hperm : neverAdmitted.Perm unsupportedOpcodes := by decide
  rw [unsupported_eq_contains, List.contains_iff_mem]
  exact hperm.mem_iff

/-- An instruction is admitted exactly when a step does not stop at its opcode (rules R44 to R47). -/
theorem wellFormed_eq_not_unsupported (i : Instr) : i.wellFormed = !unsupported i.opcode := by
  have h : ∀ op b1 b2, (decodeOp op b1 b2).wellFormed = !neverAdmitted.contains op :=
    forall_byte fun n hn => by interval_cases n <;> exact fun _ _ => rfl
  rw [unsupported_eq_contains, ← h, decodeOp_opcode_operands i]

/-- Settles O5: the 21 opcodes are those of the opcode test, and the meaning of each of their instructions is to raise
the fault. -/
theorem unsupportedOpcodesAreTheTwentyOne : Obligations.UnsupportedOpcodesAreTheTwentyOne := by
  refine ⟨rfl, unsupported_iff, fun i => ?_, fun i hi => ?_⟩
  · rw [wellFormed_eq_not_unsupported, ← unsupported_iff, Bool.not_eq_false']
  · fin_cases hi <;> exact ⟨by decide, fun _ => rfl⟩

end Sys2Proof.Proofs
end

section
/-! Flags and arithmetic (10_state.md §5, 43_alu.md §1, 44_shift_incdec.md §1): the packings of P bit by bit, the sum
with carry, and the shifter and the incrementer as arithmetic on the byte. -/

namespace Sys2Proof.Proofs

open Sys2Proof.Machine Sys2Proof.Claims

/-! ## The packings -/

section
variable (p : Flags) (v : Byte)

/-- Bit 5 is not stored and reads 1 (rules R17 and R19). -/
theorem packP_bits : (List.range 8).map (packP p).getLsbD = [p.c, p.z, p.i, p.d, p.b, true, p.v, p.n] := by
  obtain ⟨n, v, b, d, i, z, c⟩ := p
  revert n v b d i z c
  decide

/-- A push forces bit 4 (rule R19). -/
theorem packPush_bits : (List.range 8).map (packPush p).getLsbD = [p.c, p.z, p.i, p.d, true, true, p.v, p.n] := by
  obtain ⟨n, v, b, d, i, z, c⟩ := p
  revert n v b d i z c
  decide

/-- Of a pulled byte only bits 4 and 5 are lost: they read 0 and 1 (rules R17 and R20). -/
theorem packP_unpackPull : packP (unpackPull v) = (v &&& 0xEF#8) ||| 0x20#8 := by
  revert v
  decide

theorem setZN_eq_decide : setZN v p = { p with z := decide (v = 0x00#8), n := v.getLsbD 7 } := by
  rw [setZN, beq_eq_decide]

end

/-- Settles O33: the packings bit by bit, and the two writers of P as they are defined. -/
theorem statusPacking : Obligations.StatusPacking :=
  fun p v => ⟨packP_bits p, packPush_bits p, rfl, packP_unpackPull v, setZN_eq_decide p v⟩

/-! ## The sum -/

/-- Z says that the sum is 0 modulo 256 (rule R83). -/
theorem addWithCarry_z (a m : Byte) (p : Flags) :
    (addWithCarry a m p).2.z = decide ((a.toNat + m.toNat + p.c.toNat) % 256 = 0) := by
  have h : (addWithCarry a m p).2.z = (BitVec.ofNat 8 (a.toNat + m.toNat + p.c.toNat) == 0x00#8) := rfl
  rw [h, beq_eq_decide, decide_eq_decide, ← BitVec.toNat_inj, BitVec.toNat_ofNat]
  rfl

/-- N is the sum's bit 7 (rule R83). -/
theorem addWithCarry_n (a m : Byte) (p : Flags) :
    (addWithCarry a m p).2.n = decide (128 ≤ (a.toNat + m.toNat + p.c.toNat) % 256) := by
  have h : (addWithCarry a m p).2.n = (BitVec.ofNat 8 (a.toNat + m.toNat + p.c.toNat)).getLsbD 7 := rfl
  rw [h, getLsbD_seven, BitVec.toNat_ofNat]

/-- Settles O34: the four flags of the sum, each in its own lemma; the other three are kept. -/
theorem addWithCarryIsTheSum : Obligations.AddWithCarryIsTheSum := by
  intro a m p
  refine ⟨by rw [addWithCarry_fst, BitVec.toNat_ofNat], ?_, rfl⟩
  rw [← addWithCarry_v, ← addWithCarry_z, ← addWithCarry_n, ← addWithCarry_c]
  rfl

/-! ## The shifter and the incrementer -/

section
variable (v : Byte) (p : Flags)

theorem getLsbD_zero_eq_odd : v.getLsbD 0 = decide (v.toNat % 2 = 1) := by
  rw [BitVec.getLsbD, Nat.testBit_zero]

theorem shiftL_fst_toNat : (shiftL v p).1.toNat = (2 * v.toNat) % 256 := by
  simp [shiftL, Nat.shiftLeft_eq, Nat.mul_comm]

theorem shiftR_fst_toNat : (shiftR v p).1.toNat = v.toNat / 2 := by
  simp [shiftR, Nat.shiftRight_eq_div_pow]

/-- The bit the carry enters is the one the shift freed, so it adds (rule R95). -/
theorem rotL_fst_toNat : (rotL v p).1.toNat = (2 * v.toNat) % 256 + p.c.toNat := by
  have h : ∀ (v : Byte) (c : Bool), (v <<< 1 ||| flagBit 0 c).toNat = (2 * v.toNat) % 256 + c.toNat := by decide
  exact h v p.c

theorem rotR_fst_toNat : (rotR v p).1.toNat = v.toNat / 2 + 128 * p.c.toNat := by
  have h : ∀ (v : Byte) (c : Bool), (v >>> 1 ||| flagBit 7 c).toNat = v.toNat / 2 + 128 * c.toNat := by decide
  exact h v p.c

theorem decByte_fst_toNat : (decByte v p).1.toNat = (v.toNat + 255) % 256 := by
  rw [decByte, BitVec.toNat_sub, Nat.add_comm]
  rfl

end

/-- Settles O37: the results as arithmetic; C is the bit shifted off, and Z and N are those of the result. -/
theorem shifterAndIncrementer : Obligations.ShifterAndIncrementer := by
  intro v p
  rw [← getLsbD_seven, ← getLsbD_zero_eq_odd]
  exact ⟨shiftL_fst_toNat v p, rfl, shiftR_fst_toNat v p, rfl, rotL_fst_toNat v p, rfl, rotR_fst_toNat v p, rfl,
    BitVec.toNat_add v 1, rfl, decByte_fst_toNat v p, rfl⟩

end Sys2Proof.Proofs
end

section
/-! The bus, the stack and the OAM DMA (20_memory.md, rules R27 to R38): the primitives as transactions, what a flat
bus gives back, and the bytes and transactions of the OAM copy. -/

namespace Sys2Proof.Proofs

open Sys2Proof.Machine Sys2Proof.Claims

/-! ## A bus that answers from memory -/

/-- The bus answers from a memory in canonical form (log entry 1). -/
def Flat (b : Bus) : Prop := b.mem.wf = true ∧ b.answers = []

namespace Flat

variable {b : Bus} {a e : Addr} {v : Byte}

theorem store (h : Flat b) (a : Addr) (v : Byte) : Flat (b.store a v) := ⟨Memory.wf_write h.1 a v, h.2⟩

theorem load (h : Flat b) (a : Addr) : Flat (b.load a).2 := ⟨h.1, congrArg List.tail h.2⟩

theorem answer (h : Flat b) (a : Addr) : b.answer a = b.mem.read a.toNat := b.answer_flat a h.2

/-- A load leaves the answer to the next one alone. -/
theorem answer_load (h : Flat b) (a e : Addr) : (b.load a).2.answer e = b.answer e := by
  rw [(h.load a).answer, h.answer, Bus.load_mem]

theorem answer_store_same (h : Flat b) (a : Addr) (v : Byte) : (b.store a v).answer a = v := by
  rw [(h.store a v).answer]
  exact Memory.read_write_same h.1 _ _

theorem answer_store_other (h : Flat b) (hne : e ≠ a) : (b.store a v).answer e = b.answer e := by
  rw [(h.store a v).answer, h.answer]
  exact Memory.read_write_other (BitVec.toNat_ne_iff_ne.mpr hne) _ _

end Flat

/-- A store at the trigger is one bus transaction, then the DMA of the page stored (rule R28). -/
theorem memWrite_trigger {a : Addr} (h : a = Config.dmaTriggerAddr) (v : Byte) (s : State) :
    memWrite a v s = oamDma v (s.setBus (s.bus.store a v)) :=
  if_pos h

/-- Settles O25: the primitives as they are defined; a store is followed by a DMA where its address is the trigger. -/
theorem busPrimitivesAreExactTransactions : Obligations.BusPrimitivesAreExactTransactions :=
  fun a v s => ⟨rfl, rfl, rfl, memWrite_plain a v s, fun h => memWrite_trigger h v s⟩

/-- Settles O26: reading a canonical memory after one write; the pull reads where the push wrote. -/
theorem flatMemoryGivesBackWhatWasStored : Obligations.FlatMemoryGivesBackWhatWasStored := by
  intro a e v s hwf hans
  have hflat : Flat s.bus := ⟨hwf, hans⟩
  have hsp : s.regs.sp - 1 + 1 = s.regs.sp := BitVec.sub_add_cancel s.regs.sp 1
  refine ⟨hflat.answer_store_same a v, fun hne => hflat.answer_store_other hne, ?_, ?_⟩
  · rw [pull_fst, push_bus, push_regs, hsp]
    exact hflat.answer_store_same _ v
  · rw [pull_regs, push_regs, hsp]

/-- Settles O27: no stack address is the DMA's trigger, so a push is one store. -/
theorem stackPrimitives : Obligations.StackPrimitives :=
  fun v s => ⟨push_eq_store_dec s v, rfl⟩

/-! ## The OAM copy -/

/-- The next `n` bytes the OAM copy moves, from index `i` upward: what the bus answers to each of its loads
(rule R37). -/
def oamBytes (v : Byte) : Nat → Nat → Bus → List Byte
  | 0, _, _ => []
  | n + 1, i, b => b.answer (word v (BitVec.ofNat 8 i)) :: oamBytes v n (i + 1) (oamCopyByte v i b)

/-- The load and store pairs of a copy that moves the bytes `ts`, from index `i` upward, oldest first (rule R37). -/
def oamPairs (v : Byte) (i : Nat) (ts : List Byte) : List BusEvent :=
  (List.range ts.length).flatMap fun k =>
    [.load (word v (BitVec.ofNat 8 (i + k))) (ts.getD k 0x00#8), .store Config.oamDataAddr (ts.getD k 0x00#8)]

theorem oamPairs_cons (v : Byte) (i : Nat) (t : Byte) (ts : List Byte) :
    oamPairs v i (t :: ts) =
      .load (word v (BitVec.ofNat 8 i)) t :: .store Config.oamDataAddr t :: oamPairs v (i + 1) ts := by
  simp [oamPairs, List.range_succ_eq_map, List.flatMap_map, Nat.add_assoc, Nat.add_comm 1]

section
variable (v : Byte)

theorem length_oamBytes (n : Nat) : ∀ (i : Nat) (b : Bus), (oamBytes v n i b).length = n := by
  induction n with
  | zero => exact fun _ _ => rfl
  | succ n ih => exact fun i b => congrArg (· + 1) (ih (i + 1) _)

theorem oamCopy_answers (n : Nat) : ∀ (i : Nat) (b : Bus), (oamCopy v n i b).answers = b.answers.drop n := by
  induction n with
  | zero => intro i b; rw [oamCopy_zero, List.drop_zero]
  | succ n ih => intro i b; rw [oamCopy_succ, ih, ← List.drop_tail]; rfl

theorem oamCopy_trace_eq (n : Nat) : ∀ (i : Nat) (b : Bus),
    (oamCopy v n i b).trace = (oamPairs v i (oamBytes v n i b)).reverse ++ b.trace := by
  induction n with
  | zero => intro i b; rw [oamCopy_zero]; rfl
  | succ n ih =>
    intro i b
    rw [oamCopy_succ, ih, oamBytes, oamPairs_cons]
    simp [oamCopyByte]

/-- The data address holds the last byte stored there (rule R37). -/
theorem oamCopy_read_last (n : Nat) : ∀ (i : Nat) (b : Bus), b.mem.wf = true →
    (oamCopy v (n + 1) i b).mem.read Config.oamDataAddr.toNat = (oamBytes v (n + 1) i b).getD n 0x00#8 := by
  induction n with
  | zero => intro i b h; rw [oamCopy_succ, oamCopy_zero]; exact Memory.read_write_same h _ _
  | succ n ih => intro i b h; rw [oamCopy_succ]; exact ih (i + 1) _ (Memory.wf_write h _ _)

/-- The copy stores to page 0x20 only, so on a flat bus it moves the bytes of any other page as they were. -/
theorem oamBytes_flat (hv : v ≠ 0x20#8) (n : Nat) : ∀ (i : Nat) (b : Bus), b.answers = [] → ∀ k < n,
    (oamBytes v n i b).getD k 0x00#8 = b.mem.read (word v (BitVec.ofNat 8 (i + k))).toNat := by
  have hpage : ∀ l : Byte, (word v l).toNat ≠ Config.oamDataAddr.toNat := fun l h =>
    hv ((hi_word v l).symm.trans (congrArg hi (BitVec.eq_of_toNat_eq h)))
  induction n with
  | zero => exact fun _ _ _ k hk => absurd hk (Nat.not_lt_zero k)
  | succ n ih =>
    intro i b hb k hk
    cases k with
    | zero => exact b.answer_flat _ hb
    | succ k =>
      have hnext : (oamCopyByte v i b).answers = [] := congrArg List.tail hb
      refine (ih (i + 1) _ hnext k (Nat.lt_of_succ_lt_succ hk)).trans ?_
      rw [Nat.add_right_comm, Nat.add_assoc]
      exact Memory.read_write_other (hpage _) _ _

end

/-- Settles O28: the DMA is the copy of 256 bytes from index 0 and a charge by parity. -/
theorem oamDmaCopiesThePage : Obligations.OamDmaCopiesThePage := by
  intro v s
  have hlen : (oamBytes v 256 0 s.bus).length = 256 := length_oamBytes v 256 0 s.bus
  refine ⟨oamDma_regs v s, oamDma_totalCycles v s, oamDma_fault v s, rfl, ?_, fun e he => ?_,
    oamBytes v 256 0 s.bus, hlen, ?_, fun hwf => ?_, fun hans hv i hi => ?_⟩
  · rw [oamDma_bus, oamCopy_answers]
  · rw [oamDma_bus]
    exact oamCopy_read_other v 256 (BitVec.toNat_ne_iff_ne.mpr he) 0 s.bus
  · rw [oamDma_bus, oamCopy_trace_eq, oamPairs, hlen]
    simp only [Nat.zero_add]
    rfl
  · rw [oamDma_bus]
    exact oamCopy_read_last v 255 0 s.bus hwf
  · rw [oamBytes_flat v hv 256 0 s.bus hans i hi, Nat.zero_add]

end Sys2Proof.Proofs
end

section
/-! The address-mode resolver (41_addressing_modes.md, rules R57 to R72): the effective address of every mode, its
loads and its penalty. -/

namespace Sys2Proof.Proofs

open Sys2Proof.Machine Sys2Proof.Claims

/-! ## Addresses from bytes -/

theorem zext_eq_word (z : Byte) : zext z = word 0x00#8 z := by
  revert z
  decide

/-- The low byte of the next address is the next low byte (rule R68). -/
theorem lo_add_one (w : Addr) : lo (w + 1) = lo w + 1 := by
  apply BitVec.eq_of_toNat_eq
  simp [lo]

/-- The wrap within a page: the high byte of one address with the low byte of another (rule R68). -/
theorem mask_or_mask_eq_word (p q : Addr) : (p &&& 0xFF00#16) ||| (q &&& 0x00FF#16) = word (hi p) (lo q) := by
  have hhi : hi ((p &&& 0xFF00#16) ||| (q &&& 0x00FF#16)) = hi p := by
    rw [hi, BitVec.extractLsb'_or, BitVec.extractLsb'_and, BitVec.extractLsb'_and]
    exact (congrArg₂ _ BitVec.and_allOnes BitVec.and_zero).trans BitVec.or_zero
  have hlo : lo ((p &&& 0xFF00#16) ||| (q &&& 0x00FF#16)) = lo q := by
    rw [lo, BitVec.extractLsb'_or, BitVec.extractLsb'_and, BitVec.extractLsb'_and]
    exact (congrArg₂ _ BitVec.and_zero BitVec.and_allOnes).trans BitVec.zero_or
  rw [← hhi, ← hlo, word_hi_lo]

theorem pageCross_eq (base ea : Addr) : pageCross base ea = if hi ea ≠ hi base then 1 else 0 :=
  (ite_not ..).symm

section
variable (s : State)

/-- Only the penalty is charged, and only by the read variants (rules R64 to R67 and R72). -/
theorem indexed_true (base : Addr) (index : Byte) :
    indexed true base index s =
      (base + word 0x00#8 index,
        { s with cyc := s.cyc + (if hi (base + word 0x00#8 index) ≠ hi base then 1 else 0) }) := by
  rw [← zext_eq_word, ← pageCross_eq]
  rfl

theorem indexed_false_eq (base : Addr) (index : Byte) :
    indexed false base index s = (base + word 0x00#8 index, s) := by
  rw [← zext_eq_word]
  rfl

theorem zeroPagePointer_eq (p : Byte) :
    zeroPagePointer p s =
      (word (memRead (word 0x00#8 (p + 1)) (memRead (word 0x00#8 p) s).2).1 (memRead (word 0x00#8 p) s).1,
        (memRead (word 0x00#8 (p + 1)) (memRead (word 0x00#8 p) s).2).2) := by
  rw [← zext_eq_word, ← zext_eq_word]
  rfl

theorem samePagePointer_eq (p : Addr) :
    samePagePointer p s =
      (word (memRead (word (hi p) (lo p + 1)) (memRead p s).2).1 (memRead p s).1,
        (memRead (word (hi p) (lo p + 1)) (memRead p s).2).2) := by
  rw [← lo_add_one, ← mask_or_mask_eq_word]
  rfl

end

/-- Settles O29: an unsigned extension is the byte in page zero. -/
theorem zeroPageAndAbsoluteModes : Obligations.ZeroPageAndAbsoluteModes := by
  intro m z w s
  simp only [← zext_eq_word]
  exact ⟨rfl, rfl, rfl, rfl, rfl⟩

/-- Settles O30: the four modes are `indexed` with and without its charge. -/
theorem indexedModesAndPenalty : Obligations.IndexedModesAndPenalty :=
  fun w s => ⟨indexed_true s w s.regs.x, indexed_false_eq s w s.regs.x, indexed_true s w s.regs.y,
    indexed_false_eq s w s.regs.y⟩

/-- Settles O31: the pointer is read as one of the two pointer operations does; (zp),Y then indexes by Y. -/
theorem pointerModes : Obligations.PointerModes := by
  intro z w s
  refine ⟨samePagePointer_eq s w, zeroPagePointer_eq s _, ?_, ?_⟩
  · rw [resolve, zeroPagePointer_eq]
    exact indexed_false_eq _ _ _
  · rw [resolve, zeroPagePointer_eq]
    exact indexed_true _ _ _

/-- Settles O32: the resolver's frame, then the three patterns, whose accesses keep the registers. -/
theorem resolverAndItsPatterns : Obligations.ResolverAndItsPatterns :=
  fun mode v f s => ⟨resolve_regs mode s, resolve_mem mode s, resolve_totalCycles mode s, resolve_fault mode s,
    fun m => readOp_imm s m, readOp_mem mode s, writeOp_eq mode s v,
    Prod.ext (rmwOp_fst mode s f) (rmwOp_snd_eq_afterRmw s mode f)⟩

end Sys2Proof.Proofs
end

section
/-! Reset, snapshot and the interrupts (60_exceptions.md §4 to §6, 70_reset_and_hazards.md, rules R155 to R172): the
state the common entry leaves, and the host calls and BRK that take it. -/

namespace Sys2Proof.Proofs

open Sys2Proof.Machine Sys2Proof.Claims

/-! ## Reset, snapshot and restore -/

/-- Settles O12: the reset state as it is written. -/
theorem resetMeetsInvariant : Obligations.ResetMeetsInvariant := ⟨⟨rfl, rfl⟩, rfl⟩

/-- Settles O16: reset runs its two loads on any bus and takes nothing else from the state. -/
theorem resetSetsPowerUpValues : Obligations.ResetSetsPowerUpValues :=
  fun _ => ⟨rfl, (rfl : packP State.reset.regs.p = 0x24#8), fun _ => rfl⟩

/-- Settles O17: of the state, reset reads the bus only. -/
theorem resetStateIsResetOfEmptyMemory : Obligations.ResetStateIsResetOfEmptyMemory := by
  intro s h
  rw [hostReset, resetTo, h]
  rfl

/-- Of a restored byte only bit 5 is lost, and it reads 1 (rules R17 and R172). -/
theorem packP_unpackRestore (v : Byte) : packP (unpackRestore v) = v ||| 0x20#8 := by
  revert v
  decide

/-- Settles O18: packing and restoring P undo each other, bit 5 apart; the other registers are copied. -/
theorem snapshotAndRestoreRoundTrip : Obligations.SnapshotAndRestoreRoundTrip := by
  intro s r
  refine ⟨rfl, rfl, ?_, ?_⟩
  · rw [restore, snapshot, unpackRestore_packP]
    rfl
  · rw [restore, snapshot, State.setRegs_regs, packP_unpackRestore]

/-! ## The common entry -/

/-- The three pushes go to the stack address and the two below it, within the page (rules R35 and R156). -/
theorem entryBus_eq_pushedFrame (b : Bus) (r : Regs) (pushed : Byte) :
    entryBus b r pushed = pushedFrame pushed r.pc r.sp b := by
  have hsp : r.sp - 1 - 1 = r.sp - 2 := by bv_omega
  rw [entryBus, hsp]
  rfl

theorem enterInterrupt_eq_entered (vector : Addr) (pushed : Byte) (setI : Bool) (s : State) :
    enterInterrupt vector pushed setI s = entered vector pushed setI s.regs.pc s := by
  have hsp : s.regs.sp - 1 - 1 - 1 = s.regs.sp - 3 := by bv_omega
  have hp : (if setI then { s.regs.p with i := true } else s.regs.p) =
      { s.regs.p with i := s.regs.p.i || setI } := by
    cases setI <;> simp
  apply State.ext
  · rw [enterInterrupt_regs, entryBus_eq_pushedFrame, hsp, hp]
    rfl
  · exact enterInterrupt_cyc vector pushed setI s
  · exact enterInterrupt_totalCycles vector pushed setI s
  · exact enterInterrupt_fault vector pushed setI s
  · rw [enterInterrupt_bus, entryBus_eq_pushedFrame]
    rfl

/-- Settles O19: the entry, field by field. -/
theorem interruptEntrySequence : Obligations.InterruptEntrySequence := enterInterrupt_eq_entered

/-! ## NMI, IRQ and BRK -/

section
variable {s : State}

theorem nmi_of_fault (h : s.fault ≠ none) : nmi s = (0, s) := by
  obtain ⟨r, hr⟩ := Option.ne_none_iff_exists'.mp h
  simp only [nmi, hr]

theorem nmi_of_no_fault (h : s.fault = none) :
    nmi s =
      (7, { entered 0xFFFA#16 (packP s.regs.p) false s.regs.pc s with totalCycles := s.totalCycles + 7 }) := by
  simp only [nmi, h, enterInterrupt_eq_entered]
  rfl

theorem irq_of_fault (h : s.fault ≠ none) : irq s = (0, s) := by
  obtain ⟨r, hr⟩ := Option.ne_none_iff_exists'.mp h
  simp only [irq, hr]

/-- I masks the call (rule R158, decision D15). -/
theorem irq_of_masked (h : s.fault = none) (hi : s.regs.p.i = true) : irq s = (0, s) := by
  simp [irq, h, hi, Params.irqMaskedInCore]

theorem irq_of_unmasked (h : s.fault = none) (hi : s.regs.p.i = false) :
    irq s =
      (7, { entered 0xFFFE#16 (packPush s.regs.p) true (s.regs.pc + 1) s with
        totalCycles := s.totalCycles + 7 }) := by
  simp only [irq, h, hi, Bool.and_false, Params.irqEntryStyle, irqEntry, enterInterrupt_eq_entered]
  rfl

/-- BRK skips its padding byte and enters as IRQ does (rule R159). -/
theorem opBrk_eq_entered (s : State) :
    opBrk s = entered 0xFFFE#16 (packPush s.regs.p) true (s.regs.pc + 1) s := by
  rw [opBrk, enterInterrupt_eq_entered]
  rfl

end

/-- Settles O20: the entry through the NMI vector, or nothing. -/
theorem nmiEntry : Obligations.NmiEntry := fun _ => ⟨nmi_of_fault, nmi_of_no_fault⟩

/-- Settles O21: the entry through the IRQ vector, or nothing; the other style enters without advancing PC. -/
theorem irqEntry : Obligations.IrqEntry :=
  fun s => ⟨irq_of_fault, irq_of_masked, irq_of_unmasked, enterInterrupt_eq_entered _ _ _ s⟩

/-- Settles O22: the NMI entry keeps I and the fault, so the IRQ that follows is not masked. -/
theorem nmiThenIrqAreBothTaken : Obligations.NmiThenIrqAreBothTaken := by
  intro s hf hi
  have hnmi := nmi_of_no_fault hf
  have hkept : (nmi s).2.fault = none ∧ (nmi s).2.regs.p.i = false := by
    rw [hnmi]
    exact ⟨hf, (Bool.or_false _).trans hi⟩
  have hsp : s.regs.sp - 3 - 3 = s.regs.sp - 6 := by bv_omega
  rw [irq_of_unmasked hkept.1 hkept.2, hnmi]
  exact ⟨rfl, rfl, rfl, hsp, Bool.or_true _⟩

/-- Settles O55: BRK is the entry from past its padding byte. -/
theorem brkEntry : Obligations.BrkEntry :=
  fun s => ⟨rfl, rfl, congrArg Host.Outcome.next (opBrk_eq_entered s)⟩

/-! ## BRK and back -/

theorem stack_word_ne {x y : Byte} (h : x ≠ y) : word 0x01#8 x ≠ word 0x01#8 y := fun he =>
  h (by simpa using congrArg lo he)

section
variable {b : Bus} (h : Flat b)
include h

/-- Two pushes in a row, read back from the lower address up. -/
theorem answer_two_stores (sp u v : Byte) :
    ((b.store (word 0x01#8 sp) u).store (word 0x01#8 (sp - 1)) v).answer (word 0x01#8 (sp - 1)) = v ∧
    ((b.store (word 0x01#8 sp) u).store (word 0x01#8 (sp - 1)) v).answer (word 0x01#8 sp) = u := by
  have hne : sp ≠ sp - 1 := by bv_omega
  have f1 := h.store (word 0x01#8 sp) u
  exact ⟨f1.answer_store_same _ _,
    (f1.answer_store_other (stack_word_ne hne)).trans (h.answer_store_same _ _)⟩

/-- The frame of an entry, read back from the lowest address up. -/
theorem answer_pushedFrame (pushed : Byte) (pc : Addr) (sp : Byte) :
    (pushedFrame pushed pc sp b).answer (word 0x01#8 (sp - 2)) = pushed ∧
    (pushedFrame pushed pc sp b).answer (word 0x01#8 (sp - 1)) = lo pc ∧
    (pushedFrame pushed pc sp b).answer (word 0x01#8 sp) = hi pc := by
  have h12 : sp - 1 ≠ sp - 2 := by bv_omega
  have h02 : sp ≠ sp - 2 := by bv_omega
  have f2 := (h.store (word 0x01#8 sp) (hi pc)).store (word 0x01#8 (sp - 1)) (lo pc)
  obtain ⟨hlo, hhi⟩ := answer_two_stores h sp (hi pc) (lo pc)
  exact ⟨f2.answer_store_same _ _, (f2.answer_store_other (stack_word_ne h12)).trans hlo,
    (f2.answer_store_other (stack_word_ne h02)).trans hhi⟩

theorem flat_pushedFrame (pushed : Byte) (pc : Addr) (sp : Byte) : Flat (pushedFrame pushed pc sp b) :=
  ((h.store _ _).store _ _).store _ _

end

/-- Returning from an entry restores PC and SP, and of P all that was pushed but B, which is 0 (rules R156 and R160). -/
theorem opRti_entered (vector : Addr) (pushed : Byte) (setI : Bool) (pc : Addr) {s : State} (h : Flat s.bus) :
    (opRti (entered vector pushed setI pc s)).regs = { s.regs with pc := pc, p := unpackPull pushed } := by
  have hframe := flat_pushedFrame h pushed pc s.regs.sp
  have hl := hframe.load vector
  have hbus := hl.load (vector + 1)
  obtain ⟨hp, hlo, hhi⟩ := answer_pushedFrame h pushed pc s.regs.sp
  have hsp1 : s.regs.sp - 3 + 1 = s.regs.sp - 2 := by bv_omega
  have hsp2 : s.regs.sp - 3 + 2 = s.regs.sp - 1 := by bv_omega
  have hsp3 : s.regs.sp - 3 + 3 = s.regs.sp := by bv_omega
  rw [opRti_eq]
  simp only [entered, hsp1, hsp2, hsp3, Bus.load_fst, (hbus.load _).answer_load, hbus.answer_load, hl.answer_load,
    hframe.answer_load, hp, hlo, hhi, word_hi_lo]

/-- Settles O23: the frame BRK pushed is the one RTI pulls, and packing loses no flag but B. -/
theorem brkThenRtiResumesPastThePadding : Obligations.BrkThenRtiResumesPastThePadding := by
  intro s hwf hans
  refine ⟨_, _, rfl, rfl, ?_⟩
  rw [opBrk_eq_entered, opRti_entered _ _ _ _ ⟨hwf, hans⟩, unpackPull_packPush]

end Sys2Proof.Proofs
end

section
/-! Branches, JSR and its return (45_control_transfer.md, rules R108 to R119). -/

namespace Sys2Proof.Proofs

open Sys2Proof.Machine Sys2Proof.Claims

/-! ## Branches -/

/-- A taken branch costs one cycle, two if its target is on another page than the next instruction (rule R108,
decision D10). -/
theorem branch_eq (taken : Bool) (d : Byte) (s : State) :
    branch taken d s =
      if taken then
        { s with
          regs := { s.regs with pc := s.regs.pc + d.signExtend 16 }
          cyc := s.cyc + (if hi (s.regs.pc + d.signExtend 16) ≠ hi s.regs.pc then 2 else 1) }
      else s := by
  have hcost : 1 + branchPageCycles Params.branchPageBasis s.regs.pc (s.regs.pc + d.signExtend 16) =
      if hi (s.regs.pc + d.signExtend 16) ≠ hi s.regs.pc then 2 else 1 := by
    rw [ite_not]
    exact apply_ite (1 + ·) _ 0 1
  cases taken
  · rfl
  · rw [← hcost]
    rfl

/-- The opcode's page is the next instruction's unless the two bytes of the branch reach over its end. -/
theorem hi_add_two {w : Addr} (h : lo w ≠ 0xFE#8) (k : lo w ≠ 0xFF#8) : hi (w + 2) = hi w := by
  have hw := w.isLt
  have htwo : (2 : Addr).toNat = 2 := rfl
  simp only [lo, hi, ne_eq, ← BitVec.toNat_inj, BitVec.extractLsb'_toNat, BitVec.toNat_add, BitVec.toNat_ofNat,
    Nat.shiftRight_eq_div_pow, htwo, Nat.reducePow] at h k ⊢
  omega

/-- Settles O46: the two readings compare the target with the same page. -/
theorem branchPageBasesAgree : Obligations.BranchPageBasesAgree := by
  intro w target h k
  have hopcode : w + 2 - 2 = w := BitVec.add_sub_cancel w 2
  simp only [branchPageCycles, hopcode, hi_add_two h k]

/-! ## JSR and RTS -/

/-- JSR pushes the address of its last byte, high byte first (rule R118, decision D19). -/
theorem opJsr_eq (w : Addr) (s : State) :
    opJsr w s =
      { s with
        regs := { s.regs with pc := w, sp := s.regs.sp - 2 }
        bus := (s.bus.store (word 0x01#8 s.regs.sp) (hi (s.regs.pc - 1))).store (word 0x01#8 (s.regs.sp - 1))
          (lo (s.regs.pc - 1)) } := by
  have hsp : s.regs.sp - 2 = s.regs.sp - 1 - 1 := by bv_omega
  rw [hsp, opJsr, push_eq_store_dec, push_eq_store_dec]
  rfl

/-- Settles O45: each branch tests its flag, and JSR pushes before it jumps. -/
theorem branchAndCallResults : Obligations.BranchAndCallResults := by
  intro s d w
  refine ⟨fun r hr => ?_, rfl, rfl, congrArg Host.Outcome.next (opJsr_eq w s)⟩
  fin_cases hr <;> dsimp only <;> exact ⟨rfl, rfl, congrArg Host.Outcome.next (branch_eq _ d s)⟩

/-- Settles O24: RTS pulls the two bytes JSR pushed, and the address they make is one below the return address. -/
theorem jsrThenRtsReturns : Obligations.JsrThenRtsReturns := by
  intro s w hwf hans
  have hflat : Flat s.bus := ⟨hwf, hans⟩
  have hbus := (hflat.store (word 0x01#8 s.regs.sp) (hi (s.regs.pc - 1))).store (word 0x01#8 (s.regs.sp - 1))
    (lo (s.regs.pc - 1))
  obtain ⟨hlo, hhi⟩ := answer_two_stores hflat s.regs.sp (hi (s.regs.pc - 1)) (lo (s.regs.pc - 1))
  have hsp1 : s.regs.sp - 2 + 1 = s.regs.sp - 1 := by bv_omega
  have hsp2 : s.regs.sp - 2 + 2 = s.regs.sp := by bv_omega
  have hpc : s.regs.pc - 1 + 1 = s.regs.pc := BitVec.sub_add_cancel s.regs.pc 1
  refine ⟨_, _, rfl, rfl, rfl, ?_⟩
  rw [opJsr_eq, opRts_eq]
  simp only [hsp1, hsp2, Bus.load_fst, hbus.answer_load, hlo, hhi, word_hi_lo, hpc]

end Sys2Proof.Proofs
end

section
/-! What an admitted instruction does, said once: its mnemonic and its operand give one of thirteen actions, and each
promise about every instruction is a case split over these. -/

namespace Sys2Proof.Proofs

open Sys2Proof.Machine Sys2Proof.Claims

/-! ## The action of an instruction -/

/-- An instruction's operand, as the resolver or the instruction's own rule takes it (41_addressing_modes.md §2). -/
inductive Operand where
  | implied
  | accumulator
  | mode (m : Mode)
  /-- a branch displacement -/
  | rel (d : Byte)
  /-- an address the instruction's own rule resolves (rules R118, R150 and R151) -/
  | target (w : Addr)

/-- The operand of an instruction's row. -/
def operandOf : Instr → Operand
  | .oraIndX z | .sloIndX z | .andIndX z | .rlaIndX z | .eorIndX z | .sreIndX z | .adcIndX z | .rraIndX z
  | .staIndX z | .saxIndX z | .ldaIndX z | .laxIndX z | .cmpIndX z | .dcpIndX z | .sbcIndX z | .isbIndX z
  => .mode (.indX z)
  | .nopZp04 z | .oraZp z | .aslZp z | .sloZp z | .bitZp z | .andZp z | .rolZp z | .rlaZp z | .nopZp44 z
  | .eorZp z | .lsrZp z | .sreZp z | .nopZp64 z | .adcZp z | .rorZp z | .rraZp z | .styZp z | .staZp z
  | .stxZp z | .saxZp z | .ldyZp z | .ldaZp z | .ldxZp z | .laxZp z | .cpyZp z | .cmpZp z | .decZp z | .dcpZp z
  | .cpxZp z | .sbcZp z | .incZp z | .isbZp z => .mode (.zp z)
  | .oraImm m | .ancImm0B m | .andImm m | .ancImm2B m | .eorImm m | .adcImm m | .nopImm80 m | .nopImm82 m
  | .nopImm89 m | .ldyImm m | .ldxImm m | .ldaImm m | .cpyImm m | .nopImmC2 m | .cmpImm m | .cpxImm m
  | .nopImmE2 m | .sbcImm m | .sbcImmEB m => .mode (.imm m)
  | .bpl d | .bmi d | .bvc d | .bvs d | .bcc d | .bcs d | .bne d | .beq d => .rel d
  | .oraIndY z | .andIndY z | .eorIndY z | .adcIndY z | .ldaIndY z | .laxIndY z | .cmpIndY z | .sbcIndY z
  => .mode (.indYRead z)
  | .sloIndY z | .rlaIndY z | .sreIndY z | .rraIndY z | .staIndY z | .dcpIndY z | .isbIndY z
  => .mode (.indYWrite z)
  | .nopZpX14 z | .oraZpX z | .aslZpX z | .sloZpX z | .nopZpX34 z | .andZpX z | .rolZpX z | .rlaZpX z
  | .nopZpX54 z | .eorZpX z | .lsrZpX z | .sreZpX z | .nopZpX74 z | .adcZpX z | .rorZpX z | .rraZpX z
  | .styZpX z | .staZpX z | .ldyZpX z | .ldaZpX z | .nopZpXD4 z | .cmpZpX z | .decZpX z | .dcpZpX z
  | .nopZpXF4 z | .sbcZpX z | .incZpX z | .isbZpX z => .mode (.zpX z)
  | .stxZpY z | .saxZpY z | .ldxZpY z | .laxZpY z => .mode (.zpY z)
  | .nopAbs0C w | .oraAbs w | .aslAbs w | .sloAbs w | .bitAbs w | .andAbs w | .rolAbs w | .rlaAbs w | .jmpAbs w
  | .eorAbs w | .lsrAbs w | .sreAbs w | .adcAbs w | .rorAbs w | .rraAbs w | .styAbs w | .staAbs w | .stxAbs w
  | .saxAbs w | .ldyAbs w | .ldaAbs w | .ldxAbs w | .laxAbs w | .cpyAbs w | .cmpAbs w | .decAbs w | .dcpAbs w
  | .cpxAbs w | .sbcAbs w | .incAbs w | .isbAbs w => .mode (.abs w)
  | .oraAbsY w | .andAbsY w | .eorAbsY w | .adcAbsY w | .ldaAbsY w | .ldxAbsY w | .laxAbsY w | .cmpAbsY w
  | .sbcAbsY w => .mode (.absYRead w)
  | .sloAbsY w | .rlaAbsY w | .sreAbsY w | .rraAbsY w | .staAbsY w | .dcpAbsY w | .isbAbsY w
  => .mode (.absYWrite w)
  | .nopAbsX1C w | .oraAbsX w | .nopAbsX3C w | .andAbsX w | .nopAbsX5C w | .eorAbsX w | .nopAbsX7C w
  | .adcAbsX w | .ldyAbsX w | .ldaAbsX w | .nopAbsXDC w | .cmpAbsX w | .nopAbsXFC w | .sbcAbsX w
  => .mode (.absXRead w)
  | .aslAbsX w | .sloAbsX w | .rolAbsX w | .rlaAbsX w | .lsrAbsX w | .sreAbsX w | .rorAbsX w | .rraAbsX w
  | .staAbsX w | .decAbsX w | .dcpAbsX w | .incAbsX w | .isbAbsX w => .mode (.absXWrite w)
  | .jsr w | .shyAbsX w | .shxAbsY w => .target w
  | .jmpInd w => .mode (.indirect w)
  | .brk | .php | .clc | .nop1A | .plp | .sec | .nop3A | .rti | .pha | .cli | .nop5A | .rts | .pla | .sei
  | .nop7A | .dey | .txa | .tya | .txs | .tay | .tax | .clv | .tsx | .iny | .dex | .cld | .nopDA | .inx | .nop
  | .sed | .nopFA | .jam02 | .jam12 | .jam22 | .jam32 | .jam42 | .alr | .jam52 | .jam62 | .arr | .jam72 | .xaa
  | .jam92 | .ahx93 | .tas | .ahx9F | .lxa | .jamB2 | .las | .axs | .jamD2 | .jamF2 => .implied
  | .aslA | .rolA | .lsrA | .rorA => .accumulator

/-- The ways in which the instructions use the state; `g` is what becomes of the registers. -/
inductive Action where
  /-- ReadOp, the registers from the byte read (rule R58) -/
  | read (m : Mode) (g : Byte → Regs → Regs)
  /-- WriteOp of a byte made from the registers (rule R58) -/
  | store (m : Mode) (v : Regs → Byte)
  /-- RMWOp, then the registers from the byte stored (rules R58 and R138) -/
  | rmw (m : Mode) (f : Byte → Flags → Byte × Flags) (g : Byte → Regs → Regs)
  /-- registers only -/
  | regs (g : Regs → Regs)
  /-- a branch on a flag (rule R108) -/
  | branch (taken : Flags → Bool) (d : Byte)
  /-- JMP (rule R117) -/
  | jump (m : Mode)
  /-- JSR (rule R118) -/
  | call (w : Addr)
  /-- RTS (rule R119) -/
  | ret
  /-- a push of a byte made from the registers (rule R35) -/
  | push (v : Regs → Byte)
  /-- a pull, the registers from the byte pulled (rule R36) -/
  | pull (g : Byte → Regs → Regs)
  /-- BRK (rule R159) -/
  | brk
  /-- RTI (rule R160) -/
  | rti
  /-- SHY and SHX: the store of a register masked by the base's high byte (rules R150 and R151) -/
  | masked (m : Mode) (base : Addr) (reg : Regs → Byte)

/-- What an action does to the state, in the model's own operations. -/
def Action.run (s : State) : Action → State
  | .read m g => (readOp m s).2.setRegs (g (readOp m s).1 (readOp m s).2.regs)
  | .store m v => writeOp m (v s.regs) s
  | .rmw m f g => (rmwOp m f s).2.setRegs (g (rmwOp m f s).1 (rmwOp m f s).2.regs)
  | .regs g => s.setRegs (g s.regs)
  | .branch taken d => Machine.branch (taken s.regs.p) d s
  | .jump m => opJmp m s
  | .call w => opJsr w s
  | .ret => opRts s
  | .push v => Machine.push (v s.regs) s
  | .pull g => (Machine.pull s).2.setRegs (g (Machine.pull s).1 (Machine.pull s).2.regs)
  | .brk => opBrk s
  | .rti => opRti s
  | .masked m base reg =>
    let q := resolve m s
    let v := shValue (reg q.2.regs) base
    memWrite (shAddr v base q.1) v q.2

/-- The action of a mnemonic with an operand; no row has a pair left to the last line. -/
def actionOf : Mnemonic → Operand → Action
  | .lda, .mode m => .read m fun v r => { r with a := v, p := setZN v r.p }
  | .ldx, .mode m => .read m fun v r => { r with x := v, p := setZN v r.p }
  | .ldy, .mode m => .read m fun v r => { r with y := v, p := setZN v r.p }
  | .lax, .mode m => .read m fun v r => { r with a := v, x := v, p := setZN v r.p }
  | .and, .mode m => .read m fun v r => { r with a := r.a &&& v, p := setZN (r.a &&& v) r.p }
  | .ora, .mode m => .read m fun v r => { r with a := r.a ||| v, p := setZN (r.a ||| v) r.p }
  | .eor, .mode m => .read m fun v r => { r with a := r.a ^^^ v, p := setZN (r.a ^^^ v) r.p }
  | .anc, .mode m => .read m fun v r =>
    { r with a := r.a &&& v, p := { setZN (r.a &&& v) r.p with c := (r.a &&& v).getLsbD 7 } }
  | .adc, .mode m => .read m fun v r => { r with a := (addWithCarry r.a v r.p).1, p := (addWithCarry r.a v r.p).2 }
  | .sbc, .mode m => .read m fun v r =>
    { r with a := (subtractWithCarry r.a v r.p).1, p := (subtractWithCarry r.a v r.p).2 }
  | .bit, .mode m => .read m fun v r => { r with p := bitFlags r.a v r.p }
  | .cmp, .mode m => .read m fun v r => { r with p := compareFlags r.a v r.p }
  | .cpx, .mode m => .read m fun v r => { r with p := compareFlags r.x v r.p }
  | .cpy, .mode m => .read m fun v r => { r with p := compareFlags r.y v r.p }
  | .nop, .mode m => .read m fun _ r => r
  | .sta, .mode m => .store m Regs.a
  | .stx, .mode m => .store m Regs.x
  | .sty, .mode m => .store m Regs.y
  | .sax, .mode m => .store m fun r => r.a &&& r.x
  | .asl, .mode m => .rmw m shiftL fun _ r => r
  | .lsr, .mode m => .rmw m shiftR fun _ r => r
  | .rol, .mode m => .rmw m rotL fun _ r => r
  | .ror, .mode m => .rmw m rotR fun _ r => r
  | .inc, .mode m => .rmw m incByte fun _ r => r
  | .dec, .mode m => .rmw m decByte fun _ r => r
  | .slo, .mode m => .rmw m shiftL fun v r => { r with a := r.a ||| v, p := setZN (r.a ||| v) r.p }
  | .rla, .mode m => .rmw m rotL fun v r => { r with a := r.a &&& v, p := setZN (r.a &&& v) r.p }
  | .sre, .mode m => .rmw m shiftR fun v r => { r with a := r.a ^^^ v, p := setZN (r.a ^^^ v) r.p }
  | .rra, .mode m => .rmw m rotR fun v r =>
    { r with a := (addWithCarry r.a v r.p).1, p := (addWithCarry r.a v r.p).2 }
  | .dcp, .mode m => .rmw m decByte fun v r => { r with p := compareFlags r.a v r.p }
  | .isb, .mode m => .rmw m incByte fun v r =>
    { r with a := (subtractWithCarry r.a v r.p).1, p := (subtractWithCarry r.a v r.p).2 }
  | .asl, .accumulator => .regs fun r => { r with a := (shiftL r.a r.p).1, p := (shiftL r.a r.p).2 }
  | .lsr, .accumulator => .regs fun r => { r with a := (shiftR r.a r.p).1, p := (shiftR r.a r.p).2 }
  | .rol, .accumulator => .regs fun r => { r with a := (rotL r.a r.p).1, p := (rotL r.a r.p).2 }
  | .ror, .accumulator => .regs fun r => { r with a := (rotR r.a r.p).1, p := (rotR r.a r.p).2 }
  | .inx, .implied => .regs fun r => { r with x := r.x + 1, p := setZN (r.x + 1) r.p }
  | .iny, .implied => .regs fun r => { r with y := r.y + 1, p := setZN (r.y + 1) r.p }
  | .dex, .implied => .regs fun r => { r with x := r.x - 1, p := setZN (r.x - 1) r.p }
  | .dey, .implied => .regs fun r => { r with y := r.y - 1, p := setZN (r.y - 1) r.p }
  | .tax, .implied => .regs fun r => { r with x := r.a, p := setZN r.a r.p }
  | .tay, .implied => .regs fun r => { r with y := r.a, p := setZN r.a r.p }
  | .txa, .implied => .regs fun r => { r with a := r.x, p := setZN r.x r.p }
  | .tya, .implied => .regs fun r => { r with a := r.y, p := setZN r.y r.p }
  | .tsx, .implied => .regs fun r => { r with x := r.sp, p := setZN r.sp r.p }
  | .txs, .implied => .regs fun r => { r with sp := r.x }
  | .clc, .implied => .regs fun r => { r with p := { r.p with c := false } }
  | .sec, .implied => .regs fun r => { r with p := { r.p with c := true } }
  | .cli, .implied => .regs fun r => { r with p := { r.p with i := false } }
  | .sei, .implied => .regs fun r => { r with p := { r.p with i := true } }
  | .cld, .implied => .regs fun r => { r with p := { r.p with d := false } }
  | .sed, .implied => .regs fun r => { r with p := { r.p with d := true } }
  | .clv, .implied => .regs fun r => { r with p := { r.p with v := false } }
  | .pha, .implied => .push Regs.a
  | .php, .implied => .push fun r => packPush r.p
  | .pla, .implied => .pull fun v r => { r with a := v, p := setZN v r.p }
  | .plp, .implied => .pull fun v r => { r with p := unpackPull v }
  | .bpl, .rel d => .branch (fun p => !p.n) d
  | .bmi, .rel d => .branch Flags.n d
  | .bvc, .rel d => .branch (fun p => !p.v) d
  | .bvs, .rel d => .branch Flags.v d
  | .bcc, .rel d => .branch (fun p => !p.c) d
  | .bcs, .rel d => .branch Flags.c d
  | .bne, .rel d => .branch (fun p => !p.z) d
  | .beq, .rel d => .branch Flags.z d
  | .jmp, .mode m => .jump m
  | .jsr, .target w => .call w
  | .rts, .implied => .ret
  | .brk, .implied => .brk
  | .rti, .implied => .rti
  | .shy, .target w => .masked (.absXWrite w) w Regs.y
  | .shx, .target w => .masked (.absYWrite w) w Regs.x
  | _, _ => .regs id

/-- The action of an instruction. -/
def action (i : Instr) : Action := actionOf (mnemonic i) (operandOf i)

/-- Every arm of `exec`: an admitted instruction runs its action, and any other raises the fault (rules R52 and
R153). -/
theorem exec_eq (i : Instr) (s : State) :
    exec i s = if i.wellFormed then .next ((action i).run s) else raiseUnsupported i.opcode s := by
  cases i <;> rfl

theorem exec_of_wellFormed {i : Instr} (h : i.wellFormed = true) (s : State) :
    exec i s = .next ((action i).run s) := by
  rw [exec_eq, if_pos h]

/-- An execution that answers a next state is that of an admitted instruction, and the state is its action's. -/
theorem exec_next {i : Instr} {s t : State} (h : exec i s = .next t) :
    i.wellFormed = true ∧ t = (action i).run s := by
  rw [exec_eq] at h
  split at h
  · next hwf => cases h; exact ⟨hwf, rfl⟩
  · cases h

/-- Settles O56: an admitted instruction runs its action, and no completed execution breaks what `Kept` lists. -/
theorem everyAdmittedInstructionCompletes : Obligations.EveryAdmittedInstructionCompletes := by
  intro i s h
  have hnext := exec_of_wellFormed h s
  have hkept := exec_kept hnext
  exact ⟨_, hnext, hkept.fault, hkept.totalCycles, hkept.cyc⟩

/-! ## The registers an action leaves -/

/-- The registers after an action, whatever byte `v` it read or pulled last and wherever PC went, `w`. -/
def Action.newRegs (v : Byte) (w : Addr) (r : Regs) : Action → Regs
  | .read _ g => g v r
  | .store _ _ | .masked _ _ _ => r
  | .rmw _ f g => g (f v r.p).1 { r with p := (f v r.p).2 }
  | .regs g => g r
  | .branch _ _ | .jump _ => { r with pc := w }
  | .call _ => { r with pc := w, sp := r.sp - 1 - 1 }
  | .ret => { r with pc := w, sp := r.sp + 1 + 1 }
  | .push _ => { r with sp := r.sp - 1 }
  | .pull g => g v { r with sp := r.sp + 1 }
  | .brk => { r with pc := w, sp := r.sp - 1 - 1 - 1, p := { r.p with i := true } }
  | .rti => { r with pc := w, sp := r.sp + 1 + 1 + 1, p := unpackPull v }

theorem run_regs (a : Action) (s : State) : ∃ v w, (a.run s).regs = a.newRegs v w s.regs := by
  cases a with
  | read m g => exact ⟨(readOp m s).1, 0, congrArg (g _) (readOp_regs m s)⟩
  | store m v => exact ⟨0, 0, writeOp_regs m s _⟩
  | rmw m f g =>
    refine ⟨(rmwLoaded m s).1, 0, ?_⟩
    rw [Action.run, State.setRegs_regs, rmwOp_regs, rmwOp_fst]
    rfl
  | regs g => exact ⟨0, 0, rfl⟩
  | branch taken d =>
    refine ⟨0, ((Action.branch taken d).run s).regs.pc, ?_⟩
    rw [Action.run, branch]
    split <;> rfl
  | jump m => exact ⟨0, (resolve m s).1, by rw [Action.run, opJmp_eq]; rfl⟩
  | call w => exact ⟨0, w, by simp [Action.run, Action.newRegs, opJsr, resolve, State.setPc]⟩
  | ret => exact ⟨0, (opRts s).regs.pc, rfl⟩
  | push v => exact ⟨0, 0, push_regs _ s⟩
  | pull g => exact ⟨(pull s).1, 0, rfl⟩
  | brk =>
    refine ⟨0, (opBrk s).regs.pc, ?_⟩
    rw [Action.run, opBrk, enterInterrupt_regs]
    rfl
  | rti => exact ⟨s.bus.answer (stackAddr (s.regs.sp + 1)), (opRti s).regs.pc, rfl⟩
  | masked m base reg => exact ⟨0, 0, by simp [Action.run, Action.newRegs]⟩

section
variable {mn : Mnemonic} (o : Operand) (v : Byte) (w : Addr) (r : Regs)

/-- A is written by loads, pulls, transfers and arithmetic, and by the shifts of A (rule R7). -/
theorem newRegs_a (hacc : o ≠ .accumulator)
    (h : mn ∉ [.lda, .pla, .txa, .tya, .adc, .sbc, .and, .ora, .eor, .lax, .slo, .rla, .sre, .rra, .isb, .anc]) :
    ((actionOf mn o).newRegs v w r).a = r.a := by
  cases mn with
  | lda | pla | txa | tya | adc | sbc | and | ora | eor | lax | slo | rla | sre | rra | isb | anc => simp at h
  | _ =>
    cases o with
    | accumulator => exact absurd rfl hacc
    | _ => rfl

theorem newRegs_x (h : mn ∉ [.ldx, .tax, .tsx, .inx, .dex, .lax]) : ((actionOf mn o).newRegs v w r).x = r.x := by
  cases mn with
  | ldx | tax | tsx | inx | dex | lax => simp at h
  | _ => cases o <;> rfl

theorem newRegs_y (h : mn ∉ [.ldy, .tay, .iny, .dey]) : ((actionOf mn o).newRegs v w r).y = r.y := by
  cases mn with
  | ldy | tay | iny | dey => simp at h
  | _ => cases o <;> rfl

theorem newRegs_sp (h : mn ∉ [.txs, .pha, .php, .pla, .plp, .jsr, .rts, .brk, .rti]) :
    ((actionOf mn o).newRegs v w r).sp = r.sp := by
  cases mn with
  | txs | pha | php | pla | plp | jsr | rts | brk | rti => simp at h
  | _ => cases o <;> rfl

theorem newRegs_pc (h : mn ∉ [.bpl, .bmi, .bvc, .bvs, .bcc, .bcs, .bne, .beq, .jmp, .jsr, .rts, .brk, .rti]) :
    ((actionOf mn o).newRegs v w r).pc = r.pc := by
  cases mn with
  | bpl | bmi | bvc | bvs | bcc | bcs | bne | beq | jmp | jsr | rts | brk | rti => simp at h
  | _ => cases o <;> rfl

theorem newRegs_c (h : mn ∉ [.adc, .sbc, .cmp, .cpx, .cpy, .asl, .lsr, .rol, .ror, .slo, .rla, .sre, .rra, .dcp,
    .isb, .anc, .clc, .sec, .plp, .rti]) : ((actionOf mn o).newRegs v w r).p.c = r.p.c := by
  cases mn with
  | adc | sbc | cmp | cpx | cpy | asl | lsr | rol | ror | slo | rla | sre | rra | dcp | isb | anc | clc | sec | plp
  | rti => simp at h
  | _ => cases o <;> rfl

/-- Z and N are written together (rules R12 and R16). -/
theorem newRegs_zn (h : mn ∉ [.lda, .ldx, .ldy, .lax, .tax, .tay, .txa, .tya, .tsx, .and, .ora, .eor, .adc, .sbc,
    .cmp, .cpx, .cpy, .asl, .lsr, .rol, .ror, .inc, .dec, .inx, .iny, .dex, .dey, .pla, .slo, .rla, .sre, .rra, .dcp,
    .isb, .anc, .bit, .plp, .rti]) :
    ((actionOf mn o).newRegs v w r).p.z = r.p.z ∧ ((actionOf mn o).newRegs v w r).p.n = r.p.n := by
  cases mn with
  | lda | ldx | ldy | lax | tax | tay | txa | tya | tsx | and | ora | eor | adc | sbc | cmp | cpx | cpy | asl | lsr
  | rol | ror | inc | dec | inx | iny | dex | dey | pla | slo | rla | sre | rra | dcp | isb | anc | bit | plp
  | rti => simp at h
  | _ => cases o <;> exact ⟨rfl, rfl⟩

theorem newRegs_i (h : mn ∉ [.cli, .sei, .plp, .rti, .brk]) : ((actionOf mn o).newRegs v w r).p.i = r.p.i := by
  cases mn with
  | cli | sei | plp | rti | brk => simp at h
  | _ => cases o <;> rfl

theorem newRegs_d (h : mn ∉ [.cld, .sed, .plp, .rti]) : ((actionOf mn o).newRegs v w r).p.d = r.p.d := by
  cases mn with
  | cld | sed | plp | rti => simp at h
  | _ => cases o <;> rfl

theorem newRegs_v (h : mn ∉ [.adc, .sbc, .rra, .isb, .bit, .clv, .plp, .rti]) :
    ((actionOf mn o).newRegs v w r).p.v = r.p.v := by
  cases mn with
  | adc | sbc | rra | isb | bit | clv | plp | rti => simp at h
  | _ => cases o <;> rfl

theorem newRegs_b (h : mn ∉ [.plp, .rti]) : ((actionOf mn o).newRegs v w r).p.b = r.p.b := by
  cases mn with
  | plp | rti => simp at h
  | _ => cases o <;> rfl

/-- PLP and RTI clear B (rule R20). -/
theorem newRegs_b_of_clear (h : r.p.b = false) : ((actionOf mn o).newRegs v w r).p.b = false := by
  by_cases hmn : mn ∉ [.plp, .rti]
  · rw [newRegs_b o v w r hmn, h]
  · cases mn with
    | plp | rti =>
      cases o with
      | implied => rfl
      | _ => exact h
    | _ => simp at hmn

end

/-- The rows whose operand is the accumulator. -/
theorem mem_of_operandOf_accumulator {i : Instr} (h : operandOf i = .accumulator) :
    i ∈ [Instr.aslA, .lsrA, .rolA, .rorA] := by
  cases i with
  | aslA | lsrA | rolA | rorA => decide
  | _ => nomatch h

/-- Settles O57: each register is written by the actions of the listed mnemonics only. -/
theorem registersWrittenOnlyBy : Obligations.RegistersWrittenOnlyBy := by
  intro i s t h
  obtain ⟨-, rfl⟩ := exec_next h
  obtain ⟨v, w, hregs⟩ := run_regs (action i) s
  rw [hregs]
  exact ⟨fun hmn hacc => newRegs_a _ v w _ (fun ho => hacc (mem_of_operandOf_accumulator ho)) hmn,
    newRegs_x _ v w _, newRegs_y _ v w _, newRegs_sp _ v w _, newRegs_pc _ v w _⟩

/-- Settles O58: each flag is written by the actions of the listed mnemonics only. -/
theorem flagsWrittenOnlyBy : Obligations.FlagsWrittenOnlyBy := by
  intro i s t h
  obtain ⟨-, rfl⟩ := exec_next h
  obtain ⟨v, w, hregs⟩ := run_regs (action i) s
  rw [hregs]
  exact ⟨newRegs_c _ v w _, newRegs_zn _ v w _, newRegs_i _ v w _, newRegs_d _ v w _, newRegs_v _ v w _,
    newRegs_b _ v w _⟩

end Sys2Proof.Proofs
end

section
/-! What an instruction stores, and that D is read by nothing but the pushes of P (10_state.md §5, 20_memory.md §2,
rules R14, R28, R32 and R33): each a case split over the actions. -/

namespace Sys2Proof.Proofs

open Sys2Proof.Machine Sys2Proof.Claims

/-! ## The addresses an action stores to -/

/-- The addresses an action stores to, in order (rules R35, R58, R150 and R151). -/
def Action.targets (s : State) : Action → List Addr
  | .store m _ | .rmw m _ _ => [(resolve m s).1]
  | .push _ => [stackAddr s.regs.sp]
  | .call _ => [stackAddr s.regs.sp, stackAddr (s.regs.sp - 1)]
  | .brk => [stackAddr s.regs.sp, stackAddr (s.regs.sp - 1), stackAddr (s.regs.sp - 1 - 1)]
  | .masked m base reg => [shAddr (shValue (reg s.regs) base) base (resolve m s).1]
  | .read _ _ | .regs _ | .branch _ _ | .jump _ | .ret | .pull _ | .rti => []

/-- The statements' table of targets is that of the actions. -/
theorem targets_eq (i : Instr) (s : State) : targets i s = (action i).targets s := by
  cases i <;> rfl

section
variable {a : Addr} {s : State}

/-- A store changes no byte but its own and, at the trigger, the data address (rules R28 and R37). -/
theorem memWrite_read_of_not_mem {e : Addr} (v : Byte)
    (h : a ∉ [e] ++ (if 0x4014#16 ∈ [e] then [0x2004#16] else [])) :
    (memWrite e v s).bus.mem.read a.toNat = s.bus.mem.read a.toNat := by
  rw [List.mem_append, not_or, List.mem_singleton] at h
  obtain ⟨hae, hdata⟩ := h
  refine memWrite_read_other e v s (BitVec.toNat_ne_iff_ne.mpr hae) fun he => BitVec.toNat_ne_iff_ne.mpr fun ha => ?_
  have htrigger : 0x4014#16 ∈ [e] := List.mem_singleton.mpr he.symm
  rw [if_pos htrigger] at hdata
  exact hdata (List.mem_singleton.mpr ha)

theorem store_read_other {b : Bus} {e : Addr} (v : Byte) (h : a ≠ e) :
    (b.store e v).mem.read a.toNat = b.mem.read a.toNat :=
  Memory.read_write_other (BitVec.toNat_ne_iff_ne.mpr h) _ _

/-- An action changes no byte of memory but at its targets, and the data address if it starts a DMA. -/
theorem run_mem_read (act : Action)
    (h : a ∉ act.targets s ++ (if 0x4014#16 ∈ act.targets s then [0x2004#16] else [])) :
    (act.run s).bus.mem.read a.toNat = s.bus.mem.read a.toNat := by
  cases act with
  | read m g => exact congrArg (Memory.read · _) (readOp_mem_eq m s)
  | regs g | pull g | ret | rti => rfl
  | branch taken d =>
    rw [Action.run, branch]
    split <;> rfl
  | jump m => exact congrArg (Memory.read · _) (resolve_mem m s)
  | store m v => rw [Action.run, writeOp_eq, memWrite_read_of_not_mem _ h, resolve_mem]
  | rmw m f g =>
    rw [Action.run, rmwOp_eq]
    exact (memWrite_read_of_not_mem _ h).trans (congrArg (Memory.read · _) (resolve_mem m s))
  | masked m base reg =>
    rw [Action.targets, ← resolve_regs m s] at h
    exact (memWrite_read_of_not_mem _ h).trans (congrArg (Memory.read · _) (resolve_mem m s))
  | push v =>
    rw [List.mem_append, not_or, Action.targets, List.mem_singleton] at h
    rw [Action.run, push_bus]
    exact store_read_other _ h.1
  | call w =>
    simp only [List.mem_append, not_or, Action.targets, List.mem_cons] at h
    obtain ⟨⟨h0, h1, -⟩, -⟩ := h
    rw [Action.run, opJsr_eq]
    exact (store_read_other _ h1).trans (store_read_other _ h0)
  | brk =>
    simp only [List.mem_append, not_or, Action.targets, List.mem_cons] at h
    obtain ⟨⟨h0, h1, h2, -⟩, -⟩ := h
    rw [Action.run, opBrk, enterInterrupt_bus]
    exact (store_read_other _ h2).trans ((store_read_other _ h1).trans (store_read_other _ h0))

end

/-- Settles O59: the instruction runs its action, whose targets are the statement's. -/
theorem memoryWrittenOnlyAtTargets : Obligations.MemoryWrittenOnlyAtTargets := by
  intro i s t h a ha
  obtain ⟨-, rfl⟩ := exec_next h
  rw [storedAddrs, targets_eq] at ha
  exact run_mem_read _ ha

/-! ## The decimal flag -/

/-- The registers with D set to `d`. -/
def regsWithD (d : Bool) (r : Regs) : Regs := { r with p := { r.p with d := d } }

/-- The byte an action stores or pushes, from the byte `v` it loaded. -/
def Action.output (v : Byte) (r : Regs) : Action → Byte
  | .store _ f | .push f => f r
  | .rmw _ f _ => (f v r.p).1
  | .brk => packPush r.p
  | .read _ _ | .regs _ | .branch _ _ | .jump _ | .call _ | .ret | .pull _ | .rti => 0x00#8
  | .masked _ base reg => shValue (reg r) base

/-- Whether a branch is taken. -/
def Action.taken (p : Flags) : Action → Bool
  | .branch f _ => f p
  | _ => false

/-- Nothing the action writes, but D itself, depends on D. -/
structure Action.Blind (a : Action) : Prop where
  newRegs : ∀ d v w r, a.newRegs v w (regsWithD d r) = regsWithD d (a.newRegs v w r)
  output : ∀ d v r, a.output v (regsWithD d r) = a.output v r
  taken : ∀ d r, a.taken (regsWithD d r).p = a.taken r.p

theorem actionOf_blind {mn : Mnemonic} (o : Operand) (h : mn ∉ [.php, .brk, .cld, .sed, .plp, .rti]) :
    (actionOf mn o).Blind := by
  cases mn with
  | php | brk | cld | sed | plp | rti => simp at h
  | _ => cases o <;> exact ⟨fun _ _ _ _ => rfl, fun _ _ _ => rfl, fun _ _ => rfl⟩

section
variable (d : Bool) (m : Mode) (s : State)

theorem resolve_withD : resolve m (withD d s) = ((resolve m s).1, withD d (resolve m s).2) := by
  cases m <;> rfl

theorem readOp_withD : readOp m (withD d s) = ((readOp m s).1, withD d (readOp m s).2) := by
  cases m <;> rfl

theorem memWrite_withD (a : Addr) (v : Byte) : memWrite a v (withD d s) = withD d (memWrite a v s) := by
  rw [withD, ← memWrite_regs a v s]
  exact memWrite_setRegs a v s _

theorem push_withD (v : Byte) : push v (withD d s) = withD d (push v s) := by
  rw [push_eq, push_eq]
  rfl

/-- A read-modify-write stores its output and leaves its new registers (rule R58). -/
theorem run_rmw_eq (f : Byte → Flags → Byte × Flags) (g : Byte → Regs → Regs) :
    (Action.rmw m f g).run s =
      (memWrite (resolve m s).1 ((Action.rmw m f g).output (rmwLoaded m s).1 s.regs) (rmwLoaded m s).2).setRegs
        ((Action.rmw m f g).newRegs (rmwLoaded m s).1 0x0000#16 s.regs) :=
  rmwOp_setRegs_eq_afterRmw m s f g

theorem rmwLoaded_withD : rmwLoaded m (withD d s) = ((rmwLoaded m s).1, withD d (rmwLoaded m s).2) := by
  rw [rmwLoaded, resolve_withD]
  rfl

end

/-- Run from a state with another D, a blind action leaves the same state with that D. -/
theorem run_withD {a : Action} (h : a.Blind) (d : Bool) (s : State) : a.run (withD d s) = withD d (a.run s) := by
  have hregs := fun v r => h.newRegs d v 0x0000#16 r
  have hout := fun v => h.output d v s.regs
  cases a with
  | read m g =>
    rw [Action.run, readOp_withD]
    exact congrArg (readOp m s).2.setRegs (hregs (readOp m s).1 (readOp m s).2.regs)
  | store m v =>
    rw [Action.run, writeOp_eq, resolve_withD, memWrite_withD]
    exact congrArg (fun b => withD d (memWrite (resolve m s).1 b (resolve m s).2)) (hout 0x00#8)
  | rmw m f g =>
    rw [run_rmw_eq, run_rmw_eq, resolve_withD, rmwLoaded_withD, memWrite_withD]
    exact congrArg₂ (fun b r => (memWrite (resolve m s).1 b (rmwLoaded m s).2).setRegs r)
      (hout (rmwLoaded m s).1) (hregs (rmwLoaded m s).1 s.regs)
  | regs g => exact congrArg s.setRegs (hregs 0x00#8 s.regs)
  | branch taken disp =>
    have htaken : taken (withD d s).regs.p = taken s.regs.p := h.taken d s.regs
    rw [Action.run, Action.run, htaken]
    cases taken s.regs.p <;> rfl
  | jump m =>
    rw [Action.run, opJmp, resolve_withD]
    rfl
  | call w =>
    rw [Action.run, Action.run, opJsr_eq, opJsr_eq]
    rfl
  | ret => rfl
  | push v =>
    rw [Action.run, push_withD]
    exact congrArg (fun b => withD d (push b s)) (hout 0x00#8)
  | pull g => exact congrArg (pull s).2.setRegs (hregs (pull s).1 s.regs)
  | brk =>
    rw [Action.run, Action.run, opBrk_eq_entered, opBrk_eq_entered]
    exact congrArg (fun b => withD d (entered 0xFFFE#16 b true (s.regs.pc + 1) s)) (hout 0x00#8)
  | rti => exact absurd (congrArg (·.p.d) (h.newRegs true 0x00#8 0x0000#16 s.regs)) Bool.false_ne_true
  | masked m base reg =>
    rw [Action.run, resolve_withD]
    refine (memWrite_withD d _ _ _).trans ?_
    exact congrArg (fun b => withD d (memWrite (shAddr b base (resolve m s).1) b (resolve m s).2))
      (h.output d 0x00#8 (resolve m s).2.regs)

/-- Settles O60: the actions of all other mnemonics are blind to D. -/
theorem decimalFlagAffectsNothing : Obligations.DecimalFlagAffectsNothing := by
  intro i s d hwf hmn
  rw [exec_of_wellFormed hwf, exec_of_wellFormed hwf, action, run_withD (actionOf_blind _ hmn)]
  rfl

end Sys2Proof.Proofs
end

section
/-! No-operations, and the undocumented loads and stores (46_stack_transfer_flags.md §4, 47_undocumented.md, rules R137
to R142 and R149 to R151): the state each operation leaves, and the operation each row executes. -/

namespace Sys2Proof.Proofs

open Sys2Proof.Machine Sys2Proof.Claims

/-! ## What the operations leave -/

section
variable (mode : Mode) (s : State)

/-- A NOP keeps what reading its operand leaves, and of it only the registers are those before (rule R139). -/
theorem readOp_snd_eq_afterRead : (readOp mode s).2 = afterRead mode (fun _ g => g) s := by
  rw [afterRead_eq_setRegs]; rfl

/-- LAX writes A, X, Z and N (rule R140). -/
theorem opLax_eq_afterRead :
    opLax mode s = afterRead mode (fun v g => { g with a := v, x := v, p := zn v g.p }) s := by
  rw [afterRead_eq_setRegs]; rfl

/-- ANC writes A and the flags of AND, then C (rule R149). -/
theorem opAnc_eq_afterRead :
    opAnc mode s = afterRead mode (fun v g =>
      { g with a := g.a &&& v, p := { zn (g.a &&& v) g.p with c := (g.a &&& v).getLsbD 7 } }) s := by
  rw [afterRead_eq_setRegs]; rfl

/-- The address of SHY and SHX, written with the page cross first (rules R150 and R151). -/
theorem shAddr_eq (v : Byte) (base ea : Addr) :
    shAddr v base ea = if hi ea ≠ hi base then word v (lo ea) else ea :=
  (ite_not ..).symm

/-- The store of SHY and SHX, whose modes resolve without loads or penalty (rules R65, R67, R150 and R151). -/
theorem memWrite_shAddr_eq (w : Addr) (v index : Byte) :
    let ea := w + word 0x00#8 index
    memWrite (shAddr v w (w + zext index)) v s = memWrite (if hi ea ≠ hi w then word v (lo ea) else ea) v s := by
  intro ea
  rw [zext_eq_word, shAddr_eq]

end

/-! ## What the rows execute -/

section
variable {r : Row} {m z : Byte} {w : Addr} (s : State)

theorem exec_of_mem_nopRows (hr : r ∈ nopRows m z w) :
    r.Encoded ∧ exec r.instr s = .next (readOp r.mode s).2 := by
  fin_cases hr <;> exact ⟨encoded_mk rfl rfl rfl, rfl⟩

theorem exec_of_mem_laxRows (hr : r ∈ laxRows m z w) :
    r.Encoded ∧ exec r.instr s = .next (opLax r.mode s) := by
  fin_cases hr <;> exact ⟨encoded_mk rfl rfl rfl, rfl⟩

theorem exec_of_mem_saxRows (hr : r ∈ saxRows m z w) :
    r.Encoded ∧ exec r.instr s = .next (writeOp r.mode (s.regs.a &&& s.regs.x) s) := by
  fin_cases hr <;> exact ⟨encoded_mk rfl rfl rfl, rfl⟩

/-- The undocumented SBC is the documented one (rule R142). -/
theorem exec_of_mem_sbcEBRows (hr : r ∈ sbcEBRows m z w) :
    r.Encoded ∧ exec r.instr s = .next (opSbc r.mode s) ∧ exec r.instr s = exec (.sbcImm m) s := by
  fin_cases hr
  exact ⟨encoded_mk rfl rfl rfl, rfl, rfl⟩

theorem exec_of_mem_ancRows (hr : r ∈ ancRows m z w) :
    r.Encoded ∧ exec r.instr s = .next (opAnc r.mode s) := by
  fin_cases hr <;> exact ⟨encoded_mk rfl rfl rfl, rfl⟩

theorem exec_of_mem_shyRows (hr : r ∈ shyRows m z w) : r.Encoded ∧ exec r.instr s = .next (opShy w s) := by
  fin_cases hr
  exact ⟨encoded_mk rfl rfl rfl, rfl⟩

theorem exec_of_mem_shxRows (hr : r ∈ shxRows m z w) : r.Encoded ∧ exec r.instr s = .next (opShx w s) := by
  fin_cases hr
  exact ⟨encoded_mk rfl rfl rfl, rfl⟩

end

/-- Settles O51: the one-byte NOPs leave the state they are given, and the others what reading their operand
leaves. -/
theorem noOperationResults : Obligations.NoOperationResults := by
  intro s m z w
  refine ⟨⟨⟨rfl, rfl⟩, rfl⟩, ⟨⟨rfl, rfl⟩, rfl⟩, ⟨⟨rfl, rfl⟩, rfl⟩, ⟨⟨rfl, rfl⟩, rfl⟩, ⟨⟨rfl, rfl⟩, rfl⟩,
    ⟨⟨rfl, rfl⟩, rfl⟩, ⟨⟨rfl, rfl⟩, rfl⟩, fun r hr => ?_⟩
  rw [← readOp_snd_eq_afterRead]
  exact exec_of_mem_nopRows s hr

/-- Settles O54: every row executes its mnemonic's operation, which leaves the state the statement writes out. -/
theorem undocumentedLoadStoreResults : Obligations.UndocumentedLoadStoreResults := by
  intro s m z w
  refine ⟨fun r hr => ?lax, fun r hr => ?sax, fun r hr => ?sbc, fun r hr => ?anc, fun r hr => ?shy, fun r hr => ?shx,
    memWrite_regs _ _ s, memWrite_regs _ _ s⟩
  case lax => rw [← opLax_eq_afterRead]; exact exec_of_mem_laxRows s hr
  case sax => rw [← writeOp_eq_afterStore]; exact exec_of_mem_saxRows s hr
  case sbc => rw [← opSbc_eq_afterRead]; exact exec_of_mem_sbcEBRows s hr
  case anc => rw [← opAnc_eq_afterRead]; exact exec_of_mem_ancRows s hr
  case shy =>
    have hstore := memWrite_shAddr_eq s w (s.regs.y &&& (hi w + 1)) s.regs.x
    exact (exec_of_mem_shyRows s hr).imp_right (·.trans (congrArg Host.Outcome.next hstore))
  case shx =>
    have hstore := memWrite_shAddr_eq s w (s.regs.x &&& (hi w + 1)) s.regs.y
    exact (exec_of_mem_shxRows s hr).imp_right (·.trans (congrArg Host.Outcome.next hstore))

end Sys2Proof.Proofs
end

section
/-! One step (40_dispatch_and_cycles.md, rules R50 to R55) and runs of host calls (rules R3 and R174): the bytes a step
fetches, when it stops, what it keeps and what it costs. -/

namespace Sys2Proof.Proofs

open Sys2Proof.Machine Sys2Proof.Claims

/-! ## The bytes a step fetches -/

theorem answer_eq_getD (b : Bus) (a : Addr) :
    b.answer a = (b.answers.getD 0 none).getD (b.mem.read a.toNat) := by
  obtain ⟨mem, answers, trace⟩ := b
  match answers with
  | [] | none :: _ | some _ :: _ => rfl

section
variable (s : State)

theorem fetched_zero : fetched s 0 = s.bus.answer s.regs.pc := by
  rw [answer_eq_getD, fetched, BitVec.add_zero]

/-- The state after the fetch of `n` bytes at PC, with `c` cycles charged (rule R43). -/
def afterFetch (n c : Nat) (s : State) : State :=
  { s with
    regs := { s.regs with pc := s.regs.pc + BitVec.ofNat 16 n }
    cyc := c
    bus :=
      { s.bus with
        answers := s.bus.answers.drop n
        trace :=
          ((List.range n).map fun k =>
            BusEvent.load (s.regs.pc + BitVec.ofNat 16 k) (fetched s k)).reverse ++ s.bus.trace } }

theorem beginStep_eq_afterFetch : beginStep s = afterFetch 0 0 s := by
  simp [beginStep, afterFetch, State.setCyc]

/-- The next byte fetched is the one the bus answers to the next load. -/
theorem fetchByte_afterFetch (n c : Nat) : fetchByte (afterFetch n c s) = (fetched s n, afterFetch (n + 1) c s) := by
  have hbyte : (afterFetch n c s).bus.answer (s.regs.pc + BitVec.ofNat 16 n) = fetched s n := by
    rw [answer_eq_getD, fetched, afterFetch, List.getD_eq_getElem?_getD, List.getElem?_drop, Nat.add_zero,
      ← List.getD_eq_getElem?_getD]
  have hpc : s.regs.pc + BitVec.ofNat 16 n + 1 = s.regs.pc + BitVec.ofNat 16 (n + 1) := by
    rw [BitVec.add_assoc, BitVec.ofNat_add]
    rfl
  refine Prod.ext hbyte (State.ext ?_ rfl rfl rfl ?_)
  · exact congrArg (fun w => { s.regs with pc := w }) hpc
  · refine Bus.ext rfl List.tail_drop ((congrArg (BusEvent.load _ · :: _) hbyte).trans ?_)
    simp [afterFetch, List.range_succ]

theorem chargeBase_afterFetch (n : Nat) (op : Byte) :
    chargeBase op (afterFetch n 0 s) = afterFetch n (baseCycles op) s := by
  simp [chargeBase, afterFetch, State.addCyc]

theorem length_encode (i : Instr) : (encode i).length = lengthOf i.opcode := by
  rw [encode, List.length_cons, operands_eq_operandBytes]
  rcases lengthOf_cases i.opcode with hlen | hlen | hlen <;> simp [hlen, operandBytes]

/-- The statements' state before execution is the one after the fetch of all the instruction's bytes. -/
theorem atExecute_eq_afterFetch (i : Instr) :
    atExecute i s = afterFetch (lengthOf i.opcode) (baseCycles i.opcode) s := by
  rw [← length_encode]
  rfl

/-- The instruction that the bytes at PC decode to is the one a step executes, its bytes fetched and its base cost
charged (rules R43, R50 and R51). -/
theorem fetchedState_eq {i : Instr} {rest : List Byte}
    (h : decode [fetched s 0, fetched s 1, fetched s 2] = .ok (i, rest)) : fetchedState s = (i, atExecute i s) := by
  have hstart : fetchedState s =
      fetchOperands (fetched s 0) (afterFetch 1 (baseCycles (fetched s 0)) s) := by
    simp only [fetchedState, beginStep_eq_afterFetch, fetchByte_afterFetch, chargeBase_afterFetch]
  rw [hstart, atExecute_eq_afterFetch]
  rcases lengthOf_cases (fetched s 0) with hlen | hlen | hlen
  · rw [decode_of_lengthOf_one hlen] at h
    cases h
    simp only [fetchOperands, opcode_decodeOp, hlen]
  · rw [decode_of_lengthOf_two hlen] at h
    cases h
    simp only [fetchOperands, opcode_decodeOp, hlen, fetchByte_afterFetch]
  · rw [decode_of_lengthOf_three hlen] at h
    cases h
    simp only [fetchOperands, opcode_decodeOp, hlen, fetchByte_afterFetch]

end

/-! ## When a step stops -/

section
variable {s : State}

theorem step_of_fault {r : FaultRecord} (h : s.fault = some r) : step s = .fault (.unsupportedOpcode r) := by
  rw [step, h]

/-- The record holds the registers after the opcode fetch (rule R153). -/
theorem step_of_unsupported (h : s.fault = none) (hop : unsupported (fetched s 0) = true) :
    step s = .fault (.unsupportedOpcode (fatalRecord (fetched s 0) s)) := by
  rw [fetched_zero] at hop ⊢
  rw [step, h]
  exact if_pos hop

theorem step_of_supported (h : s.fault = none) (hop : unsupported (fetched s 0) = false) :
    step s = endStep (exec (fetchedState s).1 (fetchedState s).2) := by
  rw [fetched_zero] at hop
  rw [step, h]
  exact if_neg (Bool.eq_false_iff.mp hop)

/-- A step that stops at no opcode completes: the instruction fetched is admitted (rules R44 and R152). -/
theorem step_completes (h : s.fault = none) (hop : unsupported (fetched s 0) = false) : ∃ t, step s = .next t := by
  have hwf : (fetchedState s).1.wellFormed = true := by
    rw [wellFormed_eq_not_unsupported, fetchedState_opcode, ← fetched_zero, hop]
    rfl
  rw [step_of_supported h hop, exec_of_wellFormed hwf]
  exact ⟨_, rfl⟩

end

/-- Settles O6: the instruction fetched is the one decoded, and ending the step maps its next state. -/
theorem stepRunsTheDecodedInstruction : Obligations.StepRunsTheDecodedInstruction := by
  intro s i rest hfault hdec hwf
  have hbytes := decodedBytesAreTheEncoding _ _ _ hdec
  have hop : unsupported (fetched s 0) = false := by
    rw [List.head_eq_of_cons_eq hbytes, ← Bool.not_eq_true', ← wellFormed_eq_not_unsupported, hwf]
  rw [step_of_supported hfault hop, fetchedState_eq s hdec]
  cases exec i (atExecute i s) <;> rfl

/-- Settles O7: the fatal step and what the faulted core answers, each computed from the fault it keeps. -/
theorem unsupportedOpcodeIsFatal : Obligations.UnsupportedOpcodeIsFatal := by
  intro s hfault hop op t
  have hstep : step s = .fault (.unsupportedOpcode (fatalRecord op s)) :=
    step_of_unsupported hfault ((unsupported_iff _).mpr hop)
  have hafter : afterFatal (fatalRecord op s) s = t := by
    simp only [afterFatal, hfault, t, op, fetched_zero]
    rfl
  refine ⟨hstep, ?_, rfl, rfl, rfl, rfl, rfl, fun r => ⟨rfl, rfl, rfl⟩, rfl⟩
  rw [stepCall, hstep, ← hafter]

/-- Settles O8: a step of a core that is not faulted completes or is fatal, as its opcode is. -/
theorem stepStopsOnlyOnUnsupportedOpcodes : Obligations.StepStopsOnlyOnUnsupportedOpcodes := by
  intro s
  rw [← unsupported_iff]
  cases hfault : s.fault with
  | some r => simp [step_of_fault hfault]
  | none =>
    cases hop : unsupported (fetched s 0) with
    | true => simp [step_of_unsupported hfault hop]
    | false =>
      obtain ⟨t, ht⟩ := step_completes hfault hop
      simp [ht]

/-! ## What a step keeps -/

/-- Settles O10: fetching and executing keep the memory's form, and the end of the step zeroes `cyc`. -/
theorem stepKeepsInvariant : Obligations.StepKeepsInvariant := by
  intro s t hinv h
  obtain ⟨-, -, u, hexec, rfl⟩ := step_next h
  exact ⟨(exec_kept hexec).wf ((fetchedState_kept s).wf hinv.1), rfl⟩

/-- The operand fetches and the execution come after the opcode fetch (rule R51). -/
theorem fetchedState_trace (s : State) :
    ∃ new, (fetchedState s).2.bus.trace = new ++ .load s.regs.pc (fetched s 0) :: s.bus.trace := by
  rw [fetched_zero]
  exact (Kept.fetchOperands (Kept.refl (chargeBase _ (fetchByte (beginStep s)).2))).trace

/-- Settles O14: after the opcode fetch transactions are only added. -/
theorem stepBeginsWithTheOpcodeFetch : Obligations.StepBeginsWithTheOpcodeFetch := by
  intro s t h
  obtain ⟨-, -, u, hexec, rfl⟩ := step_next h
  obtain ⟨new, hnew⟩ := (exec_kept hexec).trace
  obtain ⟨operands, hoperands⟩ := fetchedState_trace s
  exact ⟨new ++ operands, by rw [List.append_assoc, ← hoperands]; exact hnew⟩

/-- A step fetches with no change to the flags. -/
theorem fetchedState_p (s : State) : (fetchedState s).2.regs.p = s.regs.p := by
  rw [fetchedState, fetchOperands_regs]
  rfl

theorem step_breakClear {s t : State} (hb : s.BreakClear) (h : step s = .next t) : t.BreakClear := by
  obtain ⟨-, -, u, hexec, rfl⟩ := step_next h
  obtain ⟨-, rfl⟩ := exec_next hexec
  obtain ⟨v, w, hregs⟩ := run_regs (action (fetchedState s).1) (fetchedState s).2
  have hclear := newRegs_b_of_clear (mn := mnemonic (fetchedState s).1) (operandOf (fetchedState s).1) v w
    (fetchedState s).2.regs (by rw [fetchedState_p, hb])
  exact (congrArg (·.p.b) hregs).trans hclear

/-! ## Host calls -/

section
variable {s : State}

/-- A step as a host call leaves the next state, or the state of a fatal step, or the state it was given. -/
theorem stepCall_cases (s : State) :
    step s = .next (stepCall s).2 ∨ (∃ r, (stepCall s).2 = afterFatal r s) ∨ (stepCall s).2 = s := by
  rw [stepCall]
  split
  · next t ht => exact .inl ht
  · exact .inr (.inl ⟨_, rfl⟩)
  · exact .inr (.inr rfl)

/-- An interrupt call leaves the state it was given, or one entered through a vector and charged. -/
theorem interrupt_cases (s : State) :
    ((nmi s).2 = s ∨ ∃ v p i pc n, (nmi s).2 = { entered v p i pc s with totalCycles := n }) ∧
    ((irq s).2 = s ∨ ∃ v p i pc n, (irq s).2 = { entered v p i pc s with totalCycles := n }) := by
  by_cases h : s.fault = none
  · refine ⟨.inr ⟨_, _, _, _, _, by rw [nmi_of_no_fault h]⟩, ?_⟩
    cases hi : s.regs.p.i with
    | true => exact .inl (by rw [irq_of_masked h hi])
    | false => exact .inr ⟨_, _, _, _, _, by rw [irq_of_unmasked h hi]⟩
  · exact ⟨.inl (by rw [nmi_of_fault h]), .inl (by rw [irq_of_fault h])⟩

/-- What holds of the state a host call leaves, if a step, a fatal step, an entry, `reset()` and `restore` keep it. -/
theorem hostCall_induction {P : State → Prop} {c : HostCall} (hs : P s) (hstep : ∀ t, step s = .next t → P t)
    (hfatal : ∀ r, P (afterFatal r s))
    (hentered : ∀ v p i pc n, P { entered v p i pc s with totalCycles := n }) (hreset : P (hostReset s))
    (hrestore : ∀ r, c = .restore r → P (restore r s)) : P (hostCall c s).2 := by
  cases c with
  | step =>
    rcases stepCall_cases s with h | ⟨r, h⟩ | h
    · exact hstep _ h
    · exact (congrArg P h).mpr (hfatal r)
    · exact (congrArg P h).mpr hs
  | nmi =>
    rcases (interrupt_cases s).1 with h | ⟨v, p, i, pc, n, h⟩
    · exact (congrArg P h).mpr hs
    · exact (congrArg P h).mpr (hentered v p i pc n)
  | irq =>
    rcases (interrupt_cases s).2 with h | ⟨v, p, i, pc, n, h⟩
    · exact (congrArg P h).mpr hs
    · exact (congrArg P h).mpr (hentered v p i pc n)
  | reset => exact hreset
  | snapshot => exact hs
  | restore r => exact hrestore r rfl

theorem hostCall_inv (c : HostCall) (h : s.Inv) : (hostCall c s).2.Inv := by
  have hwf : s.bus.mem.wf = true := h.1
  refine hostCall_induction h (fun t => stepKeepsInvariant s t h) (fun r => ?_) (fun v p i pc n => ?_) ⟨hwf, rfl⟩
    fun r _ => h
  · rw [afterFatal]
    split
    · exact h
    · exact ⟨hwf, rfl⟩
  · exact ⟨Memory.wf_write (Memory.wf_write (Memory.wf_write hwf _ _) _ _) _ _, h.2⟩

end

/-- Settles O11: by induction on the list of calls. -/
theorem hostCallsKeepInvariant : Obligations.HostCallsKeepInvariant := by
  intro calls
  induction calls with
  | nil => exact fun s h => h
  | cons c cs ih => exact fun s h => ih _ (hostCall_inv c h)

/-- Settles O13: a step and a fatal step keep B clear, an entry writes I only, and reset clears B. -/
theorem onlyRestoreSetsBreak : Obligations.OnlyRestoreSetsBreak := by
  intro c s hc hb
  refine hostCall_induction hb (fun t => step_breakClear hb) (fun r => ?_) (fun v p i pc n => hb) rfl
    fun r hr => absurd hr (hc r)
  rw [afterFatal]
  split <;> exact hb

/-- On a faulted core a host call other than `reset()` changes registers only, and only if it is `restore`
(decisions D18 and D36). -/
theorem hostCall_of_fault {s : State} {r : FaultRecord} (h : s.fault = some r) {c : HostCall} (hc : c ≠ .reset) :
    (hostCall c s).2 = s.setRegs (hostCall c s).2.regs ∧ ((∀ q, c ≠ .restore q) → (hostCall c s).2 = s) := by
  have hne : s.fault ≠ none := fun h' => Option.some_ne_none r (h.symm.trans h')
  have hsame : (hostCall c s).2 = s →
      (hostCall c s).2 = s.setRegs (hostCall c s).2.regs ∧ ((∀ q, c ≠ .restore q) → (hostCall c s).2 = s) := by
    intro he
    exact ⟨by rw [he]; rfl, fun _ => he⟩
  cases c with
  | step => exact hsame (by simp only [hostCall, stepCall, step_of_fault h, afterFatal, h])
  | nmi => exact hsame (congrArg Prod.snd (nmi_of_fault hne))
  | irq => exact hsame (congrArg Prod.snd (irq_of_fault hne))
  | reset => exact absurd rfl hc
  | snapshot => exact hsame rfl
  | restore q => exact ⟨rfl, fun hq => absurd rfl (hq q)⟩

/-- Settles O15: by induction on the list of calls; the core stays faulted. -/
theorem faultedCoreIsQuiescent : Obligations.FaultedCoreIsQuiescent := by
  intro calls
  induction calls with
  | nil => exact fun s r _ _ => ⟨rfl, fun _ => rfl⟩
  | cons c cs ih =>
    intro s r h hreset
    obtain ⟨hc, hcs⟩ := List.ne_and_not_mem_of_not_mem_cons hreset
    obtain ⟨hregs, hsame⟩ := hostCall_of_fault h hc.symm
    have hfault : (hostCall c s).2.fault = some r := by rw [hregs, State.setRegs_fault, h]
    obtain ⟨ihregs, ihsame⟩ := ih _ r hfault hcs
    refine ⟨ihregs.trans (congrArg (State.setRegs · _) hregs), fun hq => ?_⟩
    have hthis := hsame fun q he => hq q (he ▸ List.mem_cons_self)
    exact (ihsame fun q hmem => hq q (List.mem_cons_of_mem c hmem)).trans hthis

end Sys2Proof.Proofs
end

section
/-! What a step costs (40_dispatch_and_cycles.md §3, rules R53 to R55): the base cost, at most two cycles more, and the
OAM DMA where its trigger is stored to. -/

namespace Sys2Proof.Proofs

open Sys2Proof.Machine Sys2Proof.Claims

/-- Of the transactions from `s` to `t` one is a store to the DMA trigger (rule R28). -/
def StoresTrigger (s t : State) : Prop :=
  ∃ new v, t.bus.trace = new ++ s.bus.trace ∧ BusEvent.store 0x4014#16 v ∈ new

theorem StoresTrigger.of_extendsTrace {s t u : State} (h : ExtendsTrace s t) (k : StoresTrigger t u) :
    StoresTrigger s u := by
  obtain ⟨old, hold⟩ := h
  obtain ⟨new, v, hnew, hmem⟩ := k
  exact ⟨new ++ old, v, by rw [hnew, hold, List.append_assoc], List.mem_append_left old hmem⟩

/-- From `s` to `t` at most `n` cycles are charged, or the cost of one DMA more if its trigger is stored to. -/
def Costs (n : Nat) (s t : State) : Prop :=
  t.cyc ≤ s.cyc + n ∨ t.cyc ≤ s.cyc + n + 514 ∧ StoresTrigger s t

theorem memWrite_costs {n : Nat} {s t : State} (h : ExtendsTrace s t) (hcyc : t.cyc ≤ s.cyc + n) (a : Addr)
    (v : Byte) : Costs n s (memWrite a v t) := by
  rcases memWrite_cyc a v t with hplain | ⟨htrigger, hdma⟩
  · exact .inl (by omega)
  · obtain ⟨new, hnew⟩ := memWrite_trace a v t
    refine .inr ⟨by omega, StoresTrigger.of_extendsTrace h ⟨new ++ [.store a v], v, ?_, ?_⟩⟩
    · rw [hnew, List.append_assoc]
      rfl
    · rw [htrigger]
      exact List.mem_append_right new List.mem_cons_self

/-- The most an action charges beyond the base cost, a DMA apart: the page-cross penalty of its mode, and one or two
cycles for a branch (rules R72 and R108). -/
def Action.extraCycles : Action → Nat
  | .read m _ | .store m _ | .rmw m _ _ | .jump m | .masked m _ _ => if m.penalty then 1 else 0
  | .branch _ _ => 2
  | .regs _ | .call _ | .ret | .push _ | .pull _ | .brk | .rti => 0

theorem run_costs (a : Action) (s : State) : Costs a.extraCycles s (a.run s) := by
  cases a with
  | read m g => exact .inl (readOp_cyc m s).2
  | store m v => exact memWrite_costs (resolve_trace m s) (resolve_cyc m s).2 _ _
  | rmw m f g =>
    rw [Action.run, rmwOp_eq]
    exact memWrite_costs (((Kept.refl s).resolve m).memRead _).trace (resolve_cyc m s).2 _ _
  | branch taken d =>
    refine .inl ?_
    rw [Action.run, branch_eq, Action.extraCycles]
    split
    · exact Nat.add_le_add_left (by split <;> omega) _
    · exact Nat.le_add_right _ _
  | jump m => exact .inl (resolve_cyc m s).2
  | call w => exact .inl (by rw [Action.run, opJsr_eq]; rfl)
  | push v => exact .inl (push_cyc _ s).le
  | brk => exact .inl (enterInterrupt_cyc _ _ _ _).le
  | regs g | ret | pull g | rti => exact .inl le_rfl
  | masked m base reg => exact memWrite_costs (resolve_trace m s) (resolve_cyc m s).2 _ _

/-- The opcodes with a penalty or a branch have a base cost that leaves room for it (rule R53). -/
theorem baseCycles_add_extraCycles_le (i : Instr) : baseCycles i.opcode + (action i).extraCycles ≤ 8 := by
  have h : ∀ op b1 b2, Nat.ble (baseCycles op + (action (decodeOp op b1 b2)).extraCycles) 8 = true :=
    forall_byte fun n hn => by interval_cases n <;> exact fun _ _ => rfl
  have hi := h i.opcode (i.operands.getD 0 0x00#8) (i.operands.getD 1 0x00#8)
  rw [decodeOp_opcode_operands i] at hi
  exact Nat.le_of_ble_eq_true hi

/-- A supported opcode has a base cost of two cycles or more (rule R53). -/
theorem two_le_baseCycles {op : Byte} (h : unsupported op = false) : 2 ≤ baseCycles op := by
  rw [unsupported_eq_contains] at h
  revert op
  decide

/-- Settles O9: the base cost is at least 2 and with the extra cycles at most 8; a DMA is the only other charge. -/
theorem stepCycleBounds : Obligations.StepCycleBounds := by
  intro s t h
  obtain ⟨-, hop, u, hexec, rfl⟩ := step_next h
  have hkept := exec_kept hexec
  have hfetch := fetchedState_kept s
  have hlow := two_le_baseCycles hop
  have hcyc := fetchedState_cyc s
  have htotal : u.totalCycles = s.totalCycles := hkept.totalCycles.trans hfetch.totalCycles
  have hhigh := baseCycles_add_extraCycles_le (fetchedState s).1
  have hcosts := run_costs (action (fetchedState s).1) (fetchedState s).2
  rw [← (exec_next hexec).2] at hcosts
  rw [fetchedState_opcode] at hhigh
  have hend : ((u.setTotalCycles (u.totalCycles + u.cyc)).setCyc 0).totalCycles = s.totalCycles + u.cyc := by
    simp [htotal]
  rw [hend]
  have hmono := hkept.cyc
  rcases hcosts with hplain | ⟨hdma, htrigger⟩
  · obtain ⟨new, hnew⟩ := hfetch.trace.trans hkept.trace
    exact ⟨rfl, by omega, by omega, new, hnew, fun _ => by omega⟩
  · obtain ⟨new, v, hnew, hmem⟩ := StoresTrigger.of_extendsTrace hfetch.trace htrigger
    exact ⟨rfl, by omega, by omega, new, hnew, fun hno => absurd hmem (hno v)⟩

end Sys2Proof.Proofs
end
